-- ==== Sys2Proof/Word.lean ====
section
/-! DEFINITION. The word types of the engine: device bytes, device register addresses and command words
(00_scope.md rules R8 and R10, 20_memory.md rule R70, 30_encoding.md rule R100). -/

namespace Sys2Proof

/-- One byte of a device register, and a device register address (8 bits both, rules R8 and R70). -/
abbrev Byte := BitVec 8

/-- A command word as the host presents it on the command port (32 bits, rule R100). -/
abbrev CmdWord := BitVec 32

/-- A response value RSP_V0, RSP_V1 or RSP_V2 (32 bits, rule R40). -/
abbrev Value := BitVec 32

end Sys2Proof
end

