-- ==== Sys2Proof/Config.lean ====
section
/-! DEFINITION. What an implementation fixes (the parameters of 00_scope.md rule R9), the shape of the
register-bus port (20_memory.md rules R72 and R73), and the one free value of the model: the answers of the
device oracle. -/

namespace Sys2Proof.Config

/-- `OVF_POLICY` of rule R9: what an arithmetic overflow in the compensation datapath does (rule R12). -/
inductive OvfPolicy where
  /-- The primitive returns the two's-complement result. -/
  | wrap
  /-- The command stops with ARITH_OVERFLOW. -/
  | fault
  deriving DecidableEq, Repr

/-- `H45_EXTEND` of rule R9: how the 12-bit dig_H4 and dig_H5 are widened (rule R133). -/
inductive H45Extend where
  | sign
  | zero
  deriving DecidableEq, Repr

/-- The eight named parameters of rule R9. "The model takes each one as an argument": an engine carries its
parameters in `State.cfg`, which no step changes, so a claim about every state is a claim about every choice
of them (notes/assumptions/1.md). -/
structure Params where
  /-- `CHIP_ID`: the value BEGIN expects at register 0xD0. -/
  chipId : Byte
  /-- `RESET_CODE`: the byte RESET writes to register 0xE0. -/
  resetCode : Byte
  /-- `STATUS_ADDR`: the address of the device status register. -/
  statusAddr : Byte
  /-- `POLL_LIMIT`: `none`, or the maximum number of status reads in one READ_SENSORS. -/
  pollLimit : Option Nat
  /-- `OVF_POLICY`. -/
  ovfPolicy : OvfPolicy
  /-- `H45_EXTEND`. -/
  h45Extend : H45Extend
  /-- `TIME_INCLUDES_STANDBY`: whether MEAS_TIME adds the standby duration. -/
  timeIncludesStandby : Bool
  /-- `FIXED_COST_INCLUDES_T`: whether MEAS_TIME charges the fixed cost to temperature. -/
  fixedCostIncludesT : Bool
  deriving DecidableEq, Repr

/-- The defaults of rule R9. -/
def Params.default : Params where
  chipId := 0x60
  resetCode := 0xB6
  statusAddr := 0xF3
  pollLimit := none
  ovfPolicy := .wrap
  h45Extend := .sign
  timeIncludesStandby := false
  fixedCostIncludesT := false

/-- The values rule R9 allows: a poll limit, where there is one, is at least 1. -/
def Params.wf (p : Params) : Bool :=
  match p.pollLimit with
  | none => true
  | some n => decide (1 ≤ n)

/-- A transport selector: 2-bit TKIND and 24-bit TPAYLOAD (rules R33 and R103). -/
structure Selector where
  kind : BitVec 2
  payload : BitVec 24
  deriving DecidableEq, Repr

/-- The burst lengths the engine uses (rule R72: n ∈ {1, 2, 8}). -/
inductive BurstLen where
  | one
  | two
  | eight
  deriving DecidableEq, Repr

/-- The number of bytes of a burst. -/
def BurstLen.bytes : BurstLen → Nat
  | .one => 1
  | .two => 2
  | .eight => 8

/-- One transaction on the register-bus port (rule R72). -/
inductive Transaction where
  /-- `read(addr, n)`. -/
  | read (addr : Byte) (len : BurstLen)
  /-- `write(addr, v)`. -/
  | write (addr : Byte) (value : Byte)
  deriving DecidableEq, Repr

/-- The bytes of an `ok` answer, lowest address first (rule R74). A read of `n` bytes uses the first `n` and
nothing else; a write's `ok` uses none (notes/assumptions/3.md). -/
structure BurstData where
  b0 : Byte
  b1 : Byte
  b2 : Byte
  b3 : Byte
  b4 : Byte
  b5 : Byte
  b6 : Byte
  b7 : Byte
  deriving DecidableEq, Repr, Inhabited

/-- The device's answer to one transaction: `ok(bytes)` (for a write: `ok`) or `fail` (rules R13 and R72). -/
inductive Answer where
  | fail
  | ok (data : BurstData)
  deriving DecidableEq, Repr, Inhabited

/-- One answered transaction: the selector it carried, the transaction and its answer (rule R72: "every
transaction carries the transport selector in use"). -/
structure BusEvent where
  sel : Selector
  txn : Transaction
  answer : Answer
  deriving DecidableEq, Repr

end Sys2Proof.Config

namespace Sys2Proof

/-- FREE VALUE (rule R73). The device oracle's answer to a transaction, given everything that has happened on
the bus so far: "each read transaction's answer, `ok(bytes)` with arbitrary bytes or `fail`, is a free input of
the engine's step", and "the oracle may depend on the whole history of transactions". It has no body: nothing
can be proved about its value (notes/assumptions/2.md). -/
opaque Config.deviceAnswer : List Config.BusEvent → Config.Selector → Config.Transaction → Config.Answer

end Sys2Proof
end

