-- ==== Sys2Proof/Syntax.lean ====
section
/-! DEFINITION. The commands of the engine, one constructor per row of the opcode table (30_encoding.md rules
R102 to R107). "Instruction" and "command" mean the same thing (00_scope.md rule R15). -/

namespace Sys2Proof

/-- One command with its operand codes, each "an unsigned code" of the width rule R104 gives it. -/
inductive Instr where
  /-- BEGIN: TKIND [27:26] and TPAYLOAD [23:0] (rule R103). -/
  | begin (kind : BitVec 2) (payload : BitVec 24)
  /-- GET_MODE: no operands. -/
  | getMode
  /-- SET_MODE: MODE [1:0] (rule R105). -/
  | setMode (mode : BitVec 2)
  /-- SET_OSR: SENSOR [5:4] and RATE [2:0] (rule R106). -/
  | setOsr (sensor : BitVec 2) (rate : BitVec 3)
  /-- GET_OSR: ACTUAL [8] and SENSOR [5:4] (rules R106 and R107). -/
  | getOsr (actual : BitVec 1) (sensor : BitVec 2)
  /-- GET_IIR: no operands. -/
  | getIir
  /-- SET_IIR: V [2:0] (rule R107). -/
  | setIir (v : BitVec 3)
  /-- GET_STANDBY: no operands. -/
  | getStandby
  /-- SET_STANDBY: V [2:0] (rule R107). -/
  | setStandby (v : BitVec 3)
  /-- MEAS_TIME: PREC [0] (rule R107). -/
  | measTime (prec : BitVec 1)
  /-- READ_SENSORS: no operands. -/
  | readSensors
  /-- RESET: no operands. -/
  | reset
  deriving DecidableEq, Repr

end Sys2Proof
end

