-- ==== Sys2Proof/WellFormed.lean ====
section
/-! DEFINITION. Which commands have a well-formed word (30_encoding.md rules R103, R109 and R111). -/

namespace Sys2Proof

/-- The check of a BEGIN operand (rule R103): TKIND is 0, 1 or 2, and the payload bits that the selector's kind
reserves are 0 ([23:7] for I2C, [23:6] for HardwareSPI, none for SoftwareSPI). -/
def Instr.selectorOk (kind : BitVec 2) (payload : BitVec 24) : Bool :=
  match kind.toNat with
  | 0 => decide (payload.toNat < 2 ^ 7)
  | 1 => decide (payload.toNat < 2 ^ 6)
  | 2 => true
  | _ => false

/-- A command is well-formed when its word is (rule R109). Every operand code but BEGIN's is legal (rule R111:
"MODE: every code; SENSOR: code 3; RATE: codes 6 and 7; PREC: both codes; V: every code"). -/
def Instr.wellFormed : Instr → Bool
  | .begin kind payload => Instr.selectorOk kind payload
  | .getMode => true
  | .setMode _ => true
  | .setOsr _ _ => true
  | .getOsr _ _ => true
  | .getIir => true
  | .setIir _ => true
  | .getStandby => true
  | .setStandby _ => true
  | .measTime _ => true
  | .readSensors => true
  | .reset => true

end Sys2Proof
end

