-- ==== Sys2Proof/Decode.lean ====
section
/-! DEFINITION. The decoder of command words, total and rejecting by name, and the encoder
(30_encoding.md rules R101 to R112). -/

namespace Sys2Proof

/-- Why a word is not well-formed (rules R109 and R110). Each of them is reported to the host as
ILLEGAL_COMMAND; none stops the machine. -/
inductive DecodeError where
  /-- OP is 0xC, 0xD, 0xE or 0xF (rule R110). -/
  | reservedOpcode
  /-- A bit that the opcode's layout does not name is 1 (rules R101, R103 and R104). -/
  | reservedBits
  /-- BEGIN with TKIND = 3 (rule R103). -/
  | reservedKind
  deriving DecidableEq, Repr

/-- OP = word[31:28] (rule R101). -/
def opOf (w : CmdWord) : BitVec 4 := w.extractLsb' 28 4

/-- The command `i` where the ARG bits under `mask` (the bits the layout does not name) are all 0. -/
def reserving (w mask : CmdWord) (i : Instr) : Except DecodeError Instr :=
  if w &&& mask = 0 then .ok i else .error .reservedBits

/-- The BEGIN layout of rule R103: TKIND [27:26], [25:24] reserved, TPAYLOAD [23:0] with the reserved bits of
its kind. -/
def decodeBegin (w : CmdWord) : Except DecodeError Instr :=
  let kind : BitVec 2 := w.extractLsb' 26 2
  let payload : BitVec 24 := w.extractLsb' 0 24
  match kind.toNat with
  | 0 => reserving w 0x03FFFF80 (.begin kind payload)
  | 1 => reserving w 0x03FFFFC0 (.begin kind payload)
  | 2 => reserving w 0x03000000 (.begin kind payload)
  | _ => .error .reservedKind

/-- "A decoder reads OP = word[31:28] and selects the layout of rule R104" (rule R112). The masks are the ARG
bits that the layout does not name. -/
def decode (w : CmdWord) : Except DecodeError Instr :=
  match (opOf w).toNat with
  | 0x0 => decodeBegin w
  | 0x1 => reserving w 0x0FFFFFFF .getMode
  | 0x2 => reserving w 0x0FFFFFFC (.setMode (w.extractLsb' 0 2))
  | 0x3 => reserving w 0x0FFFFFC8 (.setOsr (w.extractLsb' 4 2) (w.extractLsb' 0 3))
  | 0x4 => reserving w 0x0FFFFECF (.getOsr (w.extractLsb' 8 1) (w.extractLsb' 4 2))
  | 0x5 => reserving w 0x0FFFFFFF .getIir
  | 0x6 => reserving w 0x0FFFFFF8 (.setIir (w.extractLsb' 0 3))
  | 0x7 => reserving w 0x0FFFFFFF .getStandby
  | 0x8 => reserving w 0x0FFFFFF8 (.setStandby (w.extractLsb' 0 3))
  | 0x9 => reserving w 0x0FFFFFFE (.measTime (w.extractLsb' 0 1))
  | 0xA => reserving w 0x0FFFFFFF .readSensors
  | 0xB => reserving w 0x0FFFFFFF .reset
  | _ => .error .reservedOpcode

/-- The word of a command, field by field from bit 31 down, as 30_encoding.md's "Encoding summary" writes it
(rules R102 to R104). For a well-formed command it is a well-formed word. -/
def encode : Instr → CmdWord
  | .begin kind payload => 0x0#4 ++ kind ++ 0#2 ++ payload
  | .getMode => 0x1#4 ++ 0#28
  | .setMode mode => 0x2#4 ++ 0#26 ++ mode
  | .setOsr sensor rate => 0x3#4 ++ 0#22 ++ sensor ++ 0#1 ++ rate
  | .getOsr actual sensor => 0x4#4 ++ 0#19 ++ actual ++ 0#2 ++ sensor ++ 0#4
  | .getIir => 0x5#4 ++ 0#28
  | .setIir v => 0x6#4 ++ 0#25 ++ v
  | .getStandby => 0x7#4 ++ 0#28
  | .setStandby v => 0x8#4 ++ 0#25 ++ v
  | .measTime prec => 0x9#4 ++ 0#27 ++ prec
  | .readSensors => 0xA#4 ++ 0#28
  | .reset => 0xB#4 ++ 0#28

/-- The command the decoder reads from a word given as a number whose bit 0 is the word's bit 0; the bits from
`nbits` up are 0. A command is one 32-bit word (rule R112), so a number that does not fit one is none. -/
def decodeTableWord (nbits w : Nat) : Option Instr :=
  if w % 2 ^ nbits < 2 ^ 32 then
    match decode (BitVec.ofNat 32 (w % 2 ^ nbits)) with
    | .ok i => some i
    | .error _ => none
  else none

end Sys2Proof
end

