-- ==== Sys2Proof/Machine/State.lean ====
section
/-! DEFINITION. The state of the engine and of its two ports, as plain data, and its power-on value
(10_state.md rules R29 to R51, 70_reset_and_hazards.md rules R290 and R291). -/

namespace Sys2Proof.Machine

open Sys2Proof.Config

/-- ENG_STATE, a 1-bit register: Uninitialized = 0, Ready = 1 (rule R32). -/
inductive EngState where
  | uninitialized
  | ready
  deriving DecidableEq, Repr

/-- The calibration register file: 18 registers with the widths of rule R34. dig_H4 and dig_H5 are held as
their 12-bit patterns; `H45_EXTEND` widens them where they are read (rule R133). -/
structure Calibration where
  digT1 : BitVec 16
  digT2 : BitVec 16
  digT3 : BitVec 16
  digP1 : BitVec 16
  digP2 : BitVec 16
  digP3 : BitVec 16
  digP4 : BitVec 16
  digP5 : BitVec 16
  digP6 : BitVec 16
  digP7 : BitVec 16
  digP8 : BitVec 16
  digP9 : BitVec 16
  digH1 : BitVec 8
  digH2 : BitVec 16
  digH3 : BitVec 8
  digH4 : BitVec 12
  digH5 : BitVec 12
  digH6 : BitVec 8
  deriving DecidableEq, Repr

/-- The result registers of rule R38, with its widths. -/
structure Results where
  adcP : BitVec 20
  adcT : BitVec 20
  adcH : BitVec 16
  tFine : BitVec 64
  tOut : BitVec 32
  pQ24_8 : BitVec 32
  pOut : BitVec 32
  hQ22_10 : BitVec 32
  hOut : BitVec 32
  /-- The one condition flag (rule R39). -/
  pGuard : Bool
  deriving DecidableEq, Repr

/-- The response registers RSP_STATUS, RSP_FLAGS, RSP_V0, RSP_V1 and RSP_V2 (rule R40). -/
structure Response where
  status : BitVec 4
  flags : BitVec 4
  v0 : Value
  v1 : Value
  v2 : Value
  deriving DecidableEq, Repr

/-- The sequencer: `SEQ = idle | busy(cmd, step, pollCount)` (rule R41). -/
inductive Seq where
  | idle
  /-- `cmd` is the command word being executed, `step` the index of its next bus transaction, `pollCount` the
  number of status reads READ_SENSORS has made so far. -/
  | busy (cmd : CmdWord) (step : Nat) (pollCount : Nat)
  deriving DecidableEq, Repr

/-- The whole machine: the engine's registers (rules R30 to R41), what it has received within the command it is
executing, and its two ports with the host and the device behind them (rules R72, R73 and R100). -/
structure State where
  /-- The parameters of rule R9. No step changes them. -/
  cfg : Params
  /-- ENG_STATE (rule R32). -/
  engState : EngState
  /-- TSEL_VALID (rule R33). -/
  tselValid : Bool
  /-- TSEL, the latched transport selector (rule R33). -/
  tsel : Selector
  /-- The calibration register file (rule R34). -/
  cal : Calibration
  /-- Whether the calibration file has ever been written (rule R51: "unwritten" at power-on). -/
  calWritten : Bool
  /-- CAL_VALID (rule R35). -/
  calValid : Bool
  /-- MODE_CACHE (rule R36). -/
  modeCache : BitVec 2
  /-- SH_CTRL_HUM, the shadow of device register 0xF2 (rule R37). -/
  shCtrlHum : Byte
  /-- SH_CTRL_MEAS, the shadow of device register 0xF4 (rule R37). -/
  shCtrlMeas : Byte
  /-- SH_CONFIG, the shadow of device register 0xF5 (rule R37). -/
  shConfig : Byte
  /-- The result registers (rule R38). -/
  results : Results
  /-- Whether the result registers have ever been written (rules R38 and R51). -/
  resultsWritten : Bool
  /-- The response registers (rule R40). -/
  rsp : Response
  /-- Whether the response registers have ever been written (rules R40 and R51). -/
  rspWritten : Bool
  /-- SEQ (rule R41). -/
  seq : Seq
  /-- The answers the executing command has received and still uses, oldest first: the pseudocode's `r`, `w`,
  `d` and `r_k` between two transactions (rules R134, R140, R161 to R168, R200, R250). Empty between commands. -/
  latch : List Answer
  /-- The host's side of the command port: the words it presents, the first one now (rule R100). They are the
  host's: the engine takes one only when SEQ is idle and queues none. -/
  hostWords : List CmdWord
  /-- The responses signalled to the host, newest first (rule R100 steps 3 and 4). -/
  delivered : List Response
  /-- The transactions made on the register-bus port with their answers, newest first (rule R72). -/
  busTrace : List BusEvent
  /-- Answers of the device oracle that are already fixed, the next one first. Where the list is empty the
  answer is the free value `Config.deviceAnswer` (rule R73, notes/assumptions/2.md). -/
  script : List Answer
  deriving DecidableEq, Repr

/-- No fault stops this machine: "There is no trap entry" (rule R272), and every error is a status code in a
response (rule R260), so the type of the reasons to stop is empty. -/
inductive Fault where
  deriving DecidableEq, Repr

/-- Why the model has no meaning for a step. -/
inductive Refusal where
  /-- Raised only by an arm of `exec` for a command that has no meaning in the model yet. Safe: the run stops.
  No arm raises it. -/
  | notModelled (mnemonic : String)
  deriving DecidableEq, Repr

/-- What the calibration registers hold while unwritten: a value nothing reads (DESIGN CHOICE,
notes/assumptions/5.md). -/
def Calibration.unwritten : Calibration where
  digT1 := 0
  digT2 := 0
  digT3 := 0
  digP1 := 0
  digP2 := 0
  digP3 := 0
  digP4 := 0
  digP5 := 0
  digP6 := 0
  digP7 := 0
  digP8 := 0
  digP9 := 0
  digH1 := 0
  digH2 := 0
  digH3 := 0
  digH4 := 0
  digH5 := 0
  digH6 := 0

/-- What the result registers hold while unwritten (DESIGN CHOICE, notes/assumptions/5.md). -/
def Results.unwritten : Results where
  adcP := 0
  adcT := 0
  adcH := 0
  tFine := 0
  tOut := 0
  pQ24_8 := 0
  pOut := 0
  hQ22_10 := 0
  hOut := 0
  pGuard := false

/-- What the response registers hold while unwritten (DESIGN CHOICE, notes/assumptions/5.md). -/
def Response.unwritten : Response where
  status := 0
  flags := 0
  v0 := 0
  v1 := 0
  v2 := 0

/-- The power-on state of rule R51, with the default parameters of rule R9, nothing presented by the host and
nothing on the bus. -/
def State.reset : State where
  cfg := Params.default
  engState := .uninitialized
  tselValid := false
  tsel := ⟨0, 0⟩
  cal := Calibration.unwritten
  calWritten := false
  calValid := false
  modeCache := 0
  shCtrlHum := 0x00
  shCtrlMeas := 0x00
  shConfig := 0x00
  results := Results.unwritten
  resultsWritten := false
  rsp := Response.unwritten
  rspWritten := false
  seq := .idle
  latch := []
  hostWords := []
  delivered := []
  busTrace := []
  script := []

end Sys2Proof.Machine
end

