-- ==== Sys2Proof/Machine/Ops.lean ====
section
/-! DEFINITION. The operations the commands share: one transaction on the register bus (20_memory.md rules R72
to R85), the end of a command with a response or an error (30_encoding.md rule R108, 60_exceptions.md rules R260
to R273), acceptance and dispatch (30_encoding.md rules R100 and R114), and the two recurring transaction
sequences: a register read and a read-modify-write (41_configuration.md). -/

namespace Sys2Proof.Machine

open Sys2Proof.Config

/-- What a command meaning answers. -/
abbrev Result := Host.Outcome State Fault Refusal

/-! ### The device registers the engine names (10_state.md rule R42) -/

/-- chip-id. -/
def addrChipId : Byte := 0xD0
/-- soft-reset. -/
def addrSoftReset : Byte := 0xE0
/-- ctrl_hum. -/
def addrCtrlHum : Byte := 0xF2
/-- ctrl_meas. -/
def addrCtrlMeas : Byte := 0xF4
/-- config. -/
def addrConfig : Byte := 0xF5
/-- The first of the eight data registers (rule R49). -/
def addrData : Byte := 0xF7

/-! ### Status codes -/

/-- The status codes of rule R260. -/
inductive Status where
  | ok
  | deviceNotFound
  | invalidParameter
  | busFailure
  | timeout
  | notReady
  | illegalCommand
  | arithOverflow
  deriving DecidableEq, Repr

/-- RSP_STATUS as a number (rule R260). -/
def Status.code : Status → BitVec 4
  | .ok => 0
  | .deviceNotFound => 1
  | .invalidParameter => 2
  | .busFailure => 3
  | .timeout => 4
  | .notReady => 5
  | .illegalCommand => 6
  | .arithOverflow => 7

/-! ### The bytes of an answer -/

/-- Whether an answer is `fail`. -/
def isFail : Answer → Bool
  | .fail => true
  | .ok _ => false

/-- Byte `i` of a burst: the byte of device address `addr + i` (rules R13 and R74). Bursts have at most eight
bytes. -/
def burstByte (d : BurstData) : Nat → Byte
  | 0 => d.b0
  | 1 => d.b1
  | 2 => d.b2
  | 3 => d.b3
  | 4 => d.b4
  | 5 => d.b5
  | 6 => d.b6
  | _ => d.b7

/-! ### One bus transaction -/

/-- The device's answer to the next transaction (rule R73): the next fixed answer where the state lists one,
the free value `Config.deviceAnswer` of the whole bus history where it does not. -/
def State.ask (s : State) (sel : Selector) (t : Transaction) : Answer :=
  match s.script with
  | a :: _ => a
  | [] => Config.deviceAnswer s.busTrace sel t

/-- The sequencer after one transaction: `step` is the index of the next one (rule R41). -/
def Seq.advance : Seq → Seq
  | .idle => .idle
  | .busy cmd step polls => .busy cmd (step + 1) polls

/-- One transaction on the port, answered `a` (rules R72 and R80). -/
def State.onBus (s : State) (sel : Selector) (t : Transaction) (a : Answer) : State :=
  { s with busTrace := ⟨sel, t, a⟩ :: s.busTrace, script := s.script.tail }

/-- One transaction of the executing command: it is issued and answered, its answer kept, and the sequencer
moved on (rules R41, R72 and R85). -/
def State.transact (s : State) (sel : Selector) (t : Transaction) : State :=
  { s.onBus sel t (s.ask sel t) with latch := s.latch ++ [s.ask sel t], seq := s.seq.advance }

/-! ### The end of a command -/

/-- The end of a command (rules R100 step 3 and R108): the response registers are written, SEQ returns to idle,
and completion is signalled with the response. -/
def State.finish (s : State) (r : Response) : State :=
  { s with rsp := r, rspWritten := true, delivered := r :: s.delivered, seq := .idle, latch := [] }

/-- The error response of rule R108: "when the status is not OK, all three values and the flags are 0". -/
def Response.error (e : Status) : Response := ⟨e.code, 0, 0, 0, 0⟩

/-- `raise E` (rules R14 and R272): no further transaction, the response with that status, SEQ idle. "No state
is saved, no mode changes, and there is no vector or handler address." There is no return: "after any response,
including an error, the engine accepts the next command word" (rule R273). -/
def State.raise (s : State) (e : Status) : State := s.finish (Response.error e)

/-- `respond(V0, V1, V2; flags)` of a command that ends OK (rules R14 and R108). -/
def State.respond (s : State) (flags : BitVec 4) (v0 v1 v2 : Value) : State :=
  s.finish ⟨Status.ok.code, flags, v0, v1, v2⟩

/-! ### Acceptance and dispatch -/

/-- The engine takes the word the host presents; it does so only when SEQ is idle (rule R100). -/
def State.take (s : State) : Option (CmdWord × State) :=
  match s.seq, s.hostWords with
  | .idle, w :: ws => some (w, { s with hostWords := ws })
  | _, _ => none

/-- SEQ becomes busy with the accepted command, at its first transaction (rule R41). -/
def State.start (s : State) (i : Instr) : State :=
  { s with seq := .busy (encode i) 0 0, latch := [] }

/-- Dispatch, step 2 of rule R114, for every command but BEGIN: where the command starts, ENG_STATE must be
Ready, and otherwise it ends with NOT_READY and no transaction (rule R267). A command that is already executing
goes on. -/
def dispatched (i : Instr) (s : State) (body : State → Result) : Result :=
  match s.seq with
  | .idle => if s.engState = .ready then body (s.start i) else .next (s.raise .notReady)
  | .busy _ _ _ => body s

/-! ### How far a command has got -/

/-- What a command does next, given the answers it has received: issue a transaction, end with an error, or end
with the value its transactions computed. -/
inductive Progress (α : Type) where
  | issue (t : Transaction)
  | stop (e : Status)
  | done (a : α)
  deriving DecidableEq, Repr

/-- One engine step of a command, "one bus transaction or the command's completion" (rule R29): `commit` is
what the completed command does to the state. -/
def State.proceed {α : Type} (s : State) (sel : Selector) (p : Progress α) (commit : α → State → State) : Result :=
  match p with
  | .issue t => .next (s.transact sel t)
  | .stop e => .next (s.raise e)
  | .done a => .next (commit a s)

/-- A one-byte register read: "r <- MemRead(addr, 1); if r = fail: raise BUS_FAILURE" (rules R163, R165, R167). -/
def readRegister (addr : Byte) : List Answer → Progress Byte
  | [] => .issue (.read addr .one)
  | .fail :: _ => .stop .busFailure
  | .ok d :: _ => .done (burstByte d 0)

/-- A read-modify-write, two transactions (rules R81, R161, R162, R166, R168): the byte read is changed by
`modify` and written back; either transaction's failure ends the command with BUS_FAILURE. It is done with the
byte written. -/
def modifyRegister (addr : Byte) (modify : Byte → Byte) : List Answer → Progress Byte
  | [] => .issue (.read addr .one)
  | .fail :: _ => .stop .busFailure
  | [.ok d] => .issue (.write addr (modify (burstByte d 0)))
  | .ok _ :: .fail :: _ => .stop .busFailure
  | .ok d :: .ok _ :: _ => .done (modify (burstByte d 0))

/-! ### What the host can see of a register that may be unwritten -/

/-- The result registers as an observer sees them: no value while unwritten (rule R38: "a model must treat a
read of an unwritten result register as having no value, not as zero"). -/
def State.results? (s : State) : Option Results := if s.resultsWritten then some s.results else none

/-- The response registers as the host reads them: no value while unwritten (rules R40 and R51). -/
def State.rsp? (s : State) : Option Response := if s.rspWritten then some s.rsp else none

/-- The calibration file as an observer sees it: no value while unwritten (rules R34 and R51). -/
def State.cal? (s : State) : Option Calibration := if s.calWritten then some s.cal else none

/-- TSEL as an observer sees it: no value while TSEL_VALID is 0 (rules R33 and R51). -/
def State.tsel? (s : State) : Option Selector := if s.tselValid then some s.tsel else none

end Sys2Proof.Machine
end

