-- ==== Sys2Proof/Machine/Flags.lean ====
section
/-! DEFINITION. The one condition flag, PGUARD, and its copy in RSP_FLAGS (10_state.md rules R39 and R40,
30_encoding.md rule R108). -/

namespace Sys2Proof.Machine

/-- PGUARD: 1 when the pressure denominator intermediate is zero, 0 otherwise (rules R39, R204 and R269). -/
def guardOf (denominator : Int) : Bool := decide (denominator = 0)

/-- RSP_FLAGS: bit 0 is PGUARD, "bits 3..1 are always 0" (rules R40 and R108). -/
def flagsOf (pGuard : Bool) : BitVec 4 := if pGuard then 1 else 0

/-- RSP_FLAGS of every command but READ_SENSORS (rule R108). -/
def noFlags : BitVec 4 := 0

end Sys2Proof.Machine
end

