-- ==== Sys2Proof/Machine/Operands.lean ====
section
/-! DEFINITION. The fields of the device registers (10_state.md rules R43 to R46), the operand codes' meaning
(30_encoding.md rules R105 to R107) and the exact tables over them (41_configuration.md rules R164 and R169). -/

namespace Sys2Proof.Machine

/-! ### Fields of a register byte -/

/-- The 3-bit field of a register byte at bit `shift`. -/
def fieldOf (shift : Nat) (r : Byte) : BitVec 3 := r.extractLsb' shift 3

/-- The byte `r` with its 3-bit field at bit `shift` replaced: "(r & ~(0x7 << shift) & 0xFF) | (v << shift)"
(rule R162). -/
def withField (shift : Nat) (v : BitVec 3) (r : Byte) : Byte :=
  (r &&& ~~~(0x7#8 <<< shift)) ||| (v.setWidth 8 <<< shift)

/-- The byte `r` of ctrl_meas with its mode bits [1:0] replaced: "(r & 0xFC) | MODE" (rule R161). -/
def withMode (mode : BitVec 2) (r : Byte) : Byte := (r &&& 0xFC#8) ||| mode.setWidth 8

/-- Bit position of osrs_t in ctrl_meas (rule R43). -/
def shiftOsrsT : Nat := 5
/-- Bit position of osrs_p in ctrl_meas (rule R43). -/
def shiftOsrsP : Nat := 2
/-- Bit position of osrs_h in ctrl_hum (rule R44). -/
def shiftOsrsH : Nat := 0
/-- Bit position of the filter selector in config (rule R45). -/
def shiftFilter : Nat := 2
/-- Bit position of the standby selector t_sb in config (rule R45). -/
def shiftStandby : Nat := 5

/-- The device is busy when bit 3 (measuring) or bit 0 (im_update) of the status register is 1:
"(status & 0x09) ≠ 0"; the other bits are ignored (rules R46 and R200). -/
def statusBusy (status : Byte) : Bool := decide (status &&& 0x09 ≠ 0)

/-! ### Oversampling operands -/

/-- The register address and bit position of a sensor's oversampling field: "SENSOR = 0 (T) ? (0xF4, 5) :
SENSOR = 2 (P) ? (0xF4, 2) : (H) (0xF2, 0)" (rule R162). SENSOR 3 is UnknownSensor and has none (rule R106). -/
def osrField (sensor : BitVec 2) : Option (Byte × Nat) :=
  match sensor.toNat with
  | 0 => some (addrCtrlMeas, shiftOsrsT)
  | 1 => some (addrCtrlHum, shiftOsrsH)
  | 2 => some (addrCtrlMeas, shiftOsrsP)
  | _ => none

/-- "SET_OSR accepts exactly `SENSOR < 3` and `RATE < 6`" (rule R106). -/
def rateOk (rate : BitVec 3) : Bool := decide (rate.toNat < 6)

/-- OSR_MULT, "an exact table, not a formula" (rule R164). -/
def osrMult (code : BitVec 3) : Nat :=
  match code.toNat with
  | 0 => 0
  | 1 => 1
  | 2 => 2
  | 3 => 4
  | 4 => 8
  | 5 => 16
  | 6 => 16
  | _ => 16

/-- SB_US, the standby duration of a t_sb code in microseconds (rule R169). -/
def standbyMicros (code : BitVec 3) : Nat :=
  match code.toNat with
  | 0 => 500
  | 1 => 62500
  | 2 => 125000
  | 3 => 250000
  | 4 => 500000
  | 5 => 1000000
  | 6 => 10000
  | _ => 20000

/-- The value GET_OSR returns: "(ACTUAL = 1) ? OSR_MULT(code) : code" (rule R163). -/
def osrValue (actual : BitVec 1) (code : BitVec 3) : Value :=
  if actual = 1 then BitVec.ofNat 32 (osrMult code) else code.setWidth 32

/-- `shadow(addr) <- v`: "SH_CTRL_MEAS for 0xF4, SH_CTRL_HUM for 0xF2" (rule R162), SH_CONFIG for 0xF5
(rules R165 to R168). No other register has a shadow, and for another address nothing is written (rule R37). -/
def State.setShadow (s : State) (addr v : Byte) : State :=
  if addr = addrCtrlHum then { s with shCtrlHum := v }
  else if addr = addrCtrlMeas then { s with shCtrlMeas := v }
  else if addr = addrConfig then { s with shConfig := v }
  else s

end Sys2Proof.Machine
end

