-- ==== Sys2Proof/Machine/Configuration.lean ====
section
/-! DEFINITION. The configuration commands: mode, oversampling, IIR filter and standby time
(41_configuration.md rules R160 to R168). -/

namespace Sys2Proof.Machine

open Sys2Proof.Config

/-- A getter of a register field: the register is read, its shadow takes the byte, and the response carries
`value` of it (rules R163, R165, R167). -/
def readBack (s : State) (addr : Byte) (value : Byte → Value) : Result :=
  s.proceed s.tsel (readRegister addr s.latch) fun r s => (s.setShadow addr r).respond noFlags (value r) 0 0

/-- A setter of a register field: a read-modify-write, after which the register's shadow holds the byte written
(rules R162, R166, R168). -/
def writeField (s : State) (addr : Byte) (modify : Byte → Byte) : Result :=
  s.proceed s.tsel (modifyRegister addr modify s.latch) fun v s => (s.setShadow addr v).respond noFlags 0 0 0

/-- GET_MODE (rule R160): "respond(V0 = MODE_CACHE, 0, 0; flags 0)", with no bus transaction. -/
def execGetMode (s : State) : Result :=
  dispatched .getMode s fun s => .next (s.respond noFlags (s.modeCache.setWidth 32) 0 0)

/-- SET_MODE (rule R161): the mode bits of ctrl_meas by read-modify-write; "MODE_CACHE <- MODE; SH_CTRL_MEAS <- v"
on success only. -/
def execSetMode (mode : BitVec 2) (s : State) : Result :=
  dispatched (.setMode mode) s fun s =>
    s.proceed s.tsel (modifyRegister addrCtrlMeas (withMode mode) s.latch)
      fun v s => ({ s with modeCache := mode, shCtrlMeas := v }).respond noFlags 0 0 0

/-- SET_OSR (rule R162): "if SENSOR ≥ 3 or RATE ≥ 6: raise INVALID_PARAMETER"; otherwise the sensor's
oversampling field by read-modify-write. MODE_CACHE is not written. -/
def execSetOsr (sensor : BitVec 2) (rate : BitVec 3) (s : State) : Result :=
  dispatched (.setOsr sensor rate) s fun s =>
    match osrField sensor, rateOk rate with
    | some (addr, shift), true => writeField s addr (withField shift rate)
    | _, _ => .next (s.raise .invalidParameter)

/-- GET_OSR (rule R163): "if SENSOR ≥ 3: raise INVALID_PARAMETER"; otherwise the sensor's oversampling code read
back from the device, raw or as its multiplier. -/
def execGetOsr (actual : BitVec 1) (sensor : BitVec 2) (s : State) : Result :=
  dispatched (.getOsr actual sensor) s fun s =>
    match osrField sensor with
    | some (addr, shift) => readBack s addr fun r => osrValue actual (fieldOf shift r)
    | none => .next (s.raise .invalidParameter)

/-- GET_IIR (rule R165): "respond(V0 = (r.bytes[0] >> 2) & 0x7, 0, 0; flags 0)". -/
def execGetIir (s : State) : Result :=
  dispatched .getIir s fun s => readBack s addrConfig fun r => (fieldOf shiftFilter r).setWidth 32

/-- SET_IIR (rule R166): "v = (r.bytes[0] & 0xE3) | (V << 2)" by read-modify-write of config. -/
def execSetIir (v : BitVec 3) (s : State) : Result :=
  dispatched (.setIir v) s fun s => writeField s addrConfig (withField shiftFilter v)

/-- GET_STANDBY (rule R167): "respond(V0 = (r.bytes[0] >> 5) & 0x7, 0, 0; flags 0)". -/
def execGetStandby (s : State) : Result :=
  dispatched .getStandby s fun s => readBack s addrConfig fun r => (fieldOf shiftStandby r).setWidth 32

/-- SET_STANDBY (rule R168): "v = (r.bytes[0] & 0x1F) | (V << 5)" by read-modify-write of config. -/
def execSetStandby (v : BitVec 3) (s : State) : Result :=
  dispatched (.setStandby v) s fun s => writeField s addrConfig (withField shiftStandby v)

end Sys2Proof.Machine
end

