-- ==== Sys2Proof/Machine/Lifecycle.lean ====
section
/-! DEFINITION. BEGIN and RESET: identification, the calibration load and its decode, and the soft reset
(40_calibration_and_begin.md rules R130 to R140, 44_reset.md rule R250). -/

namespace Sys2Proof.Machine

open Sys2Proof.Config

/-! ### The calibration load (rules R130 to R136) -/

/-- The transactions of LOAD_CAL in order: twelve two-byte reads 0x88, 0x8A, …, 0x9E, then the humidity reads
(rules R79 and R134). -/
def calReads : List Transaction :=
  [.read 0x88 .two, .read 0x8A .two, .read 0x8C .two, .read 0x8E .two, .read 0x90 .two, .read 0x92 .two,
   .read 0x94 .two, .read 0x96 .two, .read 0x98 .two, .read 0x9A .two, .read 0x9C .two, .read 0x9E .two] ++
  [.read 0xA1 .one, .read 0xE1 .two, .read 0xE3 .one, .read 0xE4 .one, .read 0xE5 .one, .read 0xE5 .one,
   .read 0xE6 .one, .read 0xE7 .one]

/-- Byte `j` of the answer to calibration read `k`. It is used only where all twenty reads were answered `ok`. -/
def calByte (cals : List Answer) (k j : Nat) : Byte :=
  match cals[k]? with
  | some (.ok d) => burstByte d j
  | _ => 0

/-- The little-endian word of calibration read `k`: `{b1, b0}` (rules R76 and R131). -/
def calWord (cals : List Answer) (k : Nat) : BitVec 16 := calByte cals k 1 ++ calByte cals k 0

/-- The 18 constants from the answers of LOAD_CAL (rules R130 to R134). dig_H4 takes the low nibble of 0xE5 from
its first read and dig_H5 the high nibble from its second (rule R134). -/
def calibrationOf (cals : List Answer) : Calibration where
  digT1 := calWord cals 0
  digT2 := calWord cals 1
  digT3 := calWord cals 2
  digP1 := calWord cals 3
  digP2 := calWord cals 4
  digP3 := calWord cals 5
  digP4 := calWord cals 6
  digP5 := calWord cals 7
  digP6 := calWord cals 8
  digP7 := calWord cals 9
  digP8 := calWord cals 10
  digP9 := calWord cals 11
  digH1 := calByte cals 12 0
  digH2 := calWord cals 13
  digH3 := calByte cals 14 0
  digH4 := calByte cals 15 0 ++ (calByte cals 16 0).extractLsb' 0 4
  digH5 := calByte cals 18 0 ++ (calByte cals 17 0).extractLsb' 4 4
  digH6 := calByte cals 19 0

/-- LOAD_CAL (rule R134), given the answers so far: "the first transaction answered `fail` stops LOAD_CAL with
`raise BUS_FAILURE`, and no later transaction is issued"; otherwise the next read, or the 18 values. -/
def loadCal (cals : List Answer) : Progress Calibration :=
  if cals.any isFail then .stop .busFailure
  else
    match calReads.drop cals.length with
    | t :: _ => .issue t
    | [] => .done (calibrationOf cals)

/-- The body of BEGIN from the chip-id read on, which RESET runs too (rules R140 and R250), given the answers so
far: a chip-id read that fails or mismatches gives DEVICE_NOT_FOUND (rule R263), then LOAD_CAL. -/
def identify (chipId : Byte) : List Answer → Progress Calibration
  | [] => .issue (.read addrChipId .one)
  | .fail :: _ => .stop .deviceNotFound
  | .ok d :: cals => if burstByte d 0 = chipId then loadCal cals else .stop .deviceNotFound

/-- "ENG_STATE <- Uninitialized; CAL_VALID <- 0" (rules R140 and R250). -/
def State.dropReady (s : State) : State := { s with engState := .uninitialized, calValid := false }

/-- "dig_* <- cal; CAL_VALID <- 1; ENG_STATE <- Ready" (rules R140 and R250). -/
def State.commitCal (s : State) (c : Calibration) : State :=
  { s with cal := c, calWritten := true, calValid := true, engState := .ready }

/-- "TSEL <- sel; TSEL_VALID <- 1" (rule R140). BEGIN does this only where it succeeds (rules R33 and R140;
notes/assumptions/22.md says what D25 says otherwise). -/
def State.latchSel (s : State) (sel : Selector) : State := { s with tsel := sel, tselValid := true }

/-- "MODE_CACHE <- 0; SH_CTRL_HUM <- 0x00; SH_CTRL_MEAS <- 0x00; SH_CONFIG <- 0x00" (rule R250). -/
def State.clearMirror (s : State) : State :=
  { s with modeCache := 0, shCtrlHum := 0x00, shCtrlMeas := 0x00, shConfig := 0x00 }

/-- BEGIN on the transport `sel`, once past its selector check (rule R140). TSEL is latched with the calibration, on
success only: D25 of 92_eei_decisions.md says that passing the selector check latches it, rules R33 and R140 that
success does, and the model follows the rules (DEDUCED, notes/assumptions/22.md). -/
def beginBody (sel : Selector) (s : State) : Result :=
  s.proceed sel (identify s.cfg.chipId s.latch)
    fun c s => ((s.commitCal c).latchSel sel).respond noFlags 0 0 0

/-- BEGIN (rule R140). It is the only command allowed while ENG_STATE is Uninitialized (rule R114). A selector
other than the latched one is refused with INVALID_PARAMETER, before any transaction or state change. -/
def execBegin (kind : BitVec 2) (payload : BitVec 24) (s : State) : Result :=
  match s.seq with
  | .idle =>
    if s.tselValid = true ∧ (⟨kind, payload⟩ : Selector) ≠ s.tsel then .next (s.raise .invalidParameter)
    else beginBody ⟨kind, payload⟩ (s.start (.begin kind payload)).dropReady
  | .busy _ _ _ => beginBody ⟨kind, payload⟩ s

/-- The reset write of RESET, the command's first transaction: ENG_STATE and CAL_VALID are cleared before it,
and MODE_CACHE and the shadows once it has succeeded, "even if the BEGIN body then fails" (rule R250). -/
def resetWrite (s : State) : State :=
  let s := s.dropReady
  let t : Transaction := .write addrSoftReset s.cfg.resetCode
  match s.ask s.tsel t with
  | .fail => s.transact s.tsel t
  | .ok _ => (s.transact s.tsel t).clearMirror

/-- RESET (rule R250): the reset write on TSEL, then the body of BEGIN from the chip-id read on. -/
def execReset (s : State) : Result :=
  dispatched .reset s fun s =>
    match s.latch with
    | [] => .next (resetWrite s)
    | .fail :: _ => .next (s.raise .busFailure)
    | .ok _ :: rest =>
      s.proceed s.tsel (identify s.cfg.chipId rest) fun c s => (s.commitCal c).respond noFlags 0 0 0

end Sys2Proof.Machine
end

