-- ==== Sys2Proof/Machine/MeasTime.lean ====
section
/-! DEFINITION. MEAS_TIME, the measurement-time estimate (42_measurement_time.md rules R190 and R191). -/

namespace Sys2Proof.Machine

open Sys2Proof.Config

/-- B, the base cost in microseconds (rule R191). -/
def baseMicros (prec : BitVec 1) : Nat := if prec = 0 then 1000 else 1250
/-- U, the cost per oversampling unit (rule R191). -/
def unitMicros (prec : BitVec 1) : Nat := if prec = 0 then 2000 else 2300
/-- F, the fixed cost per enabled sensor (rule R191). -/
def fixedMicros (prec : BitVec 1) : Nat := if prec = 0 then 500 else 575

/-- "en(c) = (c ≠ 0) ? 1 : 0" (rule R190). -/
def enabled (code : BitVec 3) : Nat := if code = 0 then 0 else 1

/-- The estimate of rule R190, a function of the shadows, the precision and two parameters. -/
def measMicros (cfg : Params) (ctrlMeas ctrlHum config : Byte) (prec : BitVec 1) : Nat :=
  let osT := fieldOf shiftOsrsT ctrlMeas
  let osP := fieldOf shiftOsrsP ctrlMeas
  let osH := fieldOf shiftOsrsH ctrlHum
  baseMicros prec
    + unitMicros prec * (osrMult osT + osrMult osP + osrMult osH)
    + fixedMicros prec * (enabled osP + enabled osH + (if cfg.fixedCostIncludesT then enabled osT else 0))
    + (if cfg.timeIncludesStandby then standbyMicros (fieldOf shiftStandby config) else 0)

/-- MEAS_TIME (rule R190): "respond(V0 = t, 0, 0; flags 0)", with no bus transaction. -/
def execMeasTime (prec : BitVec 1) (s : State) : Result :=
  dispatched (.measTime prec) s fun s =>
    .next (s.respond noFlags (BitVec.ofNat 32 (measMicros s.cfg s.shCtrlMeas s.shCtrlHum s.shConfig prec)) 0 0)

end Sys2Proof.Machine
end

