-- ==== Sys2Proof/Machine/Arith.lean ====
section
/-! DEFINITION. The arithmetic of the compensation datapath: widening and narrowing, and the checked primitives
(00_scope.md rules R10 to R12, 43_compensation.md rule R208). Values are mathematical integers (rule R10). -/

namespace Sys2Proof.Machine

open Sys2Proof.Config

/-- `zext_N(v)`: the unsigned value of an N-bit pattern (rule R11). -/
def zext {n : Nat} (v : BitVec n) : Int := v.toNat

/-- `sext_N(v)`: the two's-complement value of an N-bit pattern (rule R11). -/
def sext {n : Nat} (v : BitVec n) : Int := v.toInt

/-- Whether r lies in [-2^(W-1), 2^(W-1)): "of width W, signed" (rule R10). -/
def inWidth (w : Nat) (r : Int) : Bool := decide (-(2 ^ (w - 1)) ≤ r ∧ r < 2 ^ (w - 1))

/-- `wrap_W(r)`: the value of width W, signed, congruent to r modulo 2^W (rule R11). -/
def wrap (w : Nat) (r : Int) : Int := (r + 2 ^ (w - 1)) % 2 ^ w - 2 ^ (w - 1)

/-- `u32(r)`: r mod 2^32, in [0, 2^32) (rule R11). -/
def u32 (r : Int) : Int := r % 2 ^ 32

/-- A primitive's answer from its exact result r (rule R12): r itself where it is in range; otherwise an overflow
event, which under `wrap` returns `wrap_W(r)` and under `fault` (no value) stops the command with
ARITH_OVERFLOW. -/
def checked (p : OvfPolicy) (w : Nat) (r : Int) : Option Int :=
  if inWidth w r then some r
  else
    match p with
    | .wrap => some (wrap w r)
    | .fault => none

/-- `add_W(a, b)` (rule R12). -/
def add (p : OvfPolicy) (w : Nat) (a b : Int) : Option Int := checked p w (a + b)
/-- `sub_W(a, b)` (rule R12). -/
def sub (p : OvfPolicy) (w : Nat) (a b : Int) : Option Int := checked p w (a - b)
/-- `mul_W(a, b)` (rule R12). -/
def mul (p : OvfPolicy) (w : Nat) (a b : Int) : Option Int := checked p w (a * b)
/-- `shl_W(a, k)`: multiplication by 2^k, of a negative value too (rules R12 and R208). -/
def shl (p : OvfPolicy) (w : Nat) (a : Int) (k : Nat) : Option Int := checked p w (a * 2 ^ k)

/-- `asr(a, k)`: floor(a / 2^k); it never overflows (rule R12). -/
def asr (a : Int) (k : Nat) : Int := a / 2 ^ k
/-- `lsr(a, k)` for a ≥ 0: floor(a / 2^k) (rule R12). -/
def lsr (a : Int) (k : Nat) : Int := a / 2 ^ k

/-- `tdiv_64(a, b)` for b ≠ 0: the quotient truncated toward zero; "its only overflow is a = -2^63 with b = -1,
which is an overflow event with wrapped result -2^63" (rule R12). -/
def tdiv64 (p : OvfPolicy) (a b : Int) : Option Int := checked p 64 (a.tdiv b)

/-- `clamp(v, lo, hi)` (rule R14). -/
def clamp (v lo hi : Int) : Int := if v < lo then lo else if hi < v then hi else v

end Sys2Proof.Machine
end

