-- ==== Sys2Proof/Machine/Compensation.lean ====
section
/-! DEFINITION. The compensation datapath of READ_SENSORS: raw reconstruction and the three compensations
(43_compensation.md rules R201 to R206). The polynomials are the device datasheet's, which the spec marks as
general knowledge (93_implementation_defined.md G1 to G3). -/

namespace Sys2Proof.Machine

open Sys2Proof.Config

/-! ### The calibration constants as values (rules R131 to R133) -/

/-- dig_H4 and dig_H5 widened by `H45_EXTEND` (rule R133). -/
def extendH45 (e : H45Extend) (v : BitVec 12) : Int :=
  match e with
  | .sign => sext v
  | .zero => zext v

/-! ### Raw values (rule R201) -/

/-- `(byte0 << 12) | (byte1 << 4) | (byte2 >> 4)`, the byte of the lowest address first; the low nibble of the
last byte is discarded (rules R77 and R201). -/
def raw20 (b0 b1 b2 : Byte) : BitVec 20 := b0 ++ b1 ++ b2.extractLsb' 4 4

/-- `(msb << 8) | lsb` (rules R77 and R201). -/
def raw16 (msb lsb : Byte) : BitVec 16 := msb ++ lsb

/-! ### Temperature (rule R203) -/

/-- COMP_T's tFine, with the 32-bit datapath; no value at an overflow event under `fault`. -/
def compTFine (p : OvfPolicy) (c : Calibration) (adcT : Int) : Option Int := do
  let a1 ← sub p 32 (asr adcT 3) (← shl p 32 (zext c.digT1) 1)
  let var1 := asr (← mul p 32 a1 (sext c.digT2)) 11
  let d ← sub p 32 (asr adcT 4) (zext c.digT1)
  let var2 := asr (← mul p 32 (asr (← mul p 32 d d) 12) (sext c.digT3)) 14
  add p 32 var1 var2

/-- "temperatureCentiCelsius = (tFine*5+128)>>8", exact in 64 bits (rule R203). -/
def tempOut (tfine : Int) : Int := asr (tfine * 5 + 128) 8

/-! ### Pressure (rule R204) -/

/-- What COMP_P returns: the Q24.8 pressure, the whole pascals and PGUARD. -/
structure Pressure where
  q24_8 : Int
  pascals : Int
  guard : Bool
  deriving DecidableEq, Repr

/-- The two 64-bit intermediates of COMP_P before its guard: v2, and v1 after the `asr(…, 33)` step, "the
denominator intermediate" (rule R204). -/
def pressureTerms (p : OvfPolicy) (c : Calibration) (tfine : Int) : Option (Int × Int) := do
  let v1 ← sub p 64 tfine 128000
  let v2 ← mul p 64 (← mul p 64 v1 v1) (sext c.digP6)
  let v2 ← add p 64 v2 (← shl p 64 (← mul p 64 v1 (sext c.digP5)) 17)
  let v2 ← add p 64 v2 (← shl p 64 (sext c.digP4) 35)
  let sq := asr (← mul p 64 (← mul p 64 v1 v1) (sext c.digP3)) 8
  let v1 ← add p 64 sq (← shl p 64 (← mul p 64 v1 (sext c.digP2)) 12)
  let den := asr (← mul p 64 (← add p 64 (2 ^ 47) v1) (zext c.digP1)) 33
  return (v2, den)

/-- COMP_P's final signed 64-bit p, from a denominator v1 that is not 0 (rule R204). -/
def pressureOf (p : OvfPolicy) (c : Calibration) (adcP v2 v1 : Int) : Option Int := do
  let p0 := 1048576 - adcP
  let p1 ← tdiv64 p (← mul p 64 (← sub p 64 (← shl p 64 p0 31) v2) 3125) v1
  let w1 := asr (← mul p 64 (← mul p 64 (sext c.digP9) (asr p1 13)) (asr p1 13)) 25
  let w2 := asr (← mul p 64 (sext c.digP8) p1) 19
  add p 64 (asr (← add p 64 (← add p 64 p1 w1) w2) 8) (← shl p 64 (sext c.digP7) 4)

/-- COMP_P (rule R204). A zero denominator is reported as pressure 0 with PGUARD 1 and is no error (rule R269). -/
def compP (p : OvfPolicy) (c : Calibration) (adcP tfine : Int) : Option Pressure := do
  let (v2, v1) ← pressureTerms p c tfine
  if guardOf v1 then
    return ⟨0, 0, true⟩
  else
    let q := u32 (← pressureOf p c adcP v2 v1)
    return ⟨q, lsr q 8, false⟩

/-! ### Humidity (rules R205 and R206) -/

/-- `a` of COMP_H, from the raw humidity and x = tf - 76800 (rule R205). -/
def humidityA (p : OvfPolicy) (e : H45Extend) (c : Calibration) (adcH x : Int) : Option Int := do
  let h ← sub p 32 (← shl p 32 adcH 14) (← shl p 32 (extendH45 e c.digH4) 20)
  let h ← sub p 32 h (← mul p 32 (extendH45 e c.digH5) x)
  return asr (← add p 32 h 16384) 15

/-- `b` of COMP_H, from x = tf - 76800 (rule R205). -/
def humidityB (p : OvfPolicy) (c : Calibration) (x : Int) : Option Int := do
  let b1 := asr (← mul p 32 x (sext c.digH6)) 10
  let b2 ← add p 32 (asr (← mul p 32 x (zext c.digH3)) 11) 32768
  let b := asr (← mul p 32 b1 b2) 10
  return asr (← add p 32 (← mul p 32 (← add p 32 b 2097152) (sext c.digH2)) 8192) 14

/-- COMP_H's intermediate x before the clamp, with the 32-bit datapath (rule R205). -/
def humidityOf (p : OvfPolicy) (e : H45Extend) (c : Calibration) (adcH tfine : Int) : Option Int := do
  let x ← sub p 32 (wrap 32 tfine) 76800
  let a ← humidityA p e c adcH x
  let b ← humidityB p c x
  let x ← mul p 32 a b
  let s := asr x 15
  sub p 32 x (asr (← mul p 32 (asr (← mul p 32 s s) 7) (zext c.digH1)) 4)

/-- "clamp intermediate to [0, 419430400]", then `hq = lsr(xc, 12)`, Q22.10 %RH (rule R205). -/
def humidityQ (x : Int) : Int := lsr (clamp x 0 419430400) 12

/-- `hout = floor(hq * 100 / 1024)` (rule R206). -/
def humidityOut (hq : Int) : Int := hq * 100 / 1024

/-! ### The three together (rules R200 phase 3 and R202) -/

/-- Phase 3 of READ_SENSORS: the raw values of the burst, then temperature, pressure and humidity in that order,
the last two over the tFine of this same burst (rule R202). No value where an overflow event stopped the
command (rule R262). -/
def compensate (cfg : Params) (c : Calibration) (d : BurstData) : Option Results := do
  let adcP := raw20 d.b0 d.b1 d.b2
  let adcT := raw20 d.b3 d.b4 d.b5
  let adcH := raw16 d.b6 d.b7
  let tfine ← compTFine cfg.ovfPolicy c (zext adcT)
  let pr ← compP cfg.ovfPolicy c (zext adcP) tfine
  let hq := humidityQ (← humidityOf cfg.ovfPolicy cfg.h45Extend c (zext adcH) tfine)
  return {
    adcP := adcP
    adcT := adcT
    adcH := adcH
    tFine := BitVec.ofInt 64 tfine
    tOut := BitVec.ofInt 32 (tempOut tfine)
    pQ24_8 := BitVec.ofInt 32 pr.q24_8
    pOut := BitVec.ofInt 32 pr.pascals
    hQ22_10 := BitVec.ofInt 32 hq
    hOut := BitVec.ofInt 32 (humidityOut hq)
    pGuard := pr.guard }

end Sys2Proof.Machine
end

