-- ==== Sys2Proof/Machine/Sensors.lean ====
section
/-! DEFINITION. READ_SENSORS: the poll, the data burst, the compensation and the commit
(43_compensation.md rules R200 to R207). -/

namespace Sys2Proof.Machine

open Sys2Proof.Config

/-- "POLL_LIMIT = some n and pollCount ≥ n" (rules R200 and R266). -/
def pollLimitReached (limit : Option Nat) (polls : Nat) : Bool :=
  match limit with
  | none => false
  | some n => decide (n ≤ polls)

/-- The status reads made so far (rule R41). -/
def Seq.polls : Seq → Nat
  | .idle => 0
  | .busy _ _ polls => polls

/-- The sequencer after one status read: pollCount has grown by one, and `step`, the index of the next
transaction, goes on to the burst only when the device was idle (rule R41). -/
def Seq.polled (deviceIdle : Bool) : Seq → Seq
  | .idle => .idle
  | .busy cmd step polls => .busy cmd (if deviceIdle then step + 1 else step) (polls + 1)

/-- Whether a status read found the device idle (rule R200). -/
def answersIdle : Answer → Bool
  | .fail => false
  | .ok d => !statusBusy (burstByte d 0)

/-- One status read of the poll (rule R200 phase 1). Only the latest answer is kept: nothing uses another. -/
def State.poll (s : State) : State :=
  let t : Transaction := .read s.cfg.statusAddr .one
  let a := s.ask s.tsel t
  { s.onBus s.tsel t a with latch := [a], seq := s.seq.polled (answersIdle a) }

/-- Phase 4 of READ_SENSORS: the result registers are written, all in one step (rule R207), and the response
carries "V0 = u32(tout), V1 = pout, V2 = hout; flags[0] = pguard" (rule R200). Where STATUS_ADDR is set to the
address of a register that has a shadow, that shadow takes `status`, the last status byte read (rule R37 and
90_conflicts.md C6 over rule R200's "the shadows ... are not written": DEDUCED, notes/assumptions/10.md); at any
other STATUS_ADDR, the default among them, no shadow is written. -/
def State.commitResults (s : State) (status : Byte) (r : Results) : State :=
  (({ s with results := r, resultsWritten := true } : State).setShadow s.cfg.statusAddr status).respond
    (flagsOf r.pGuard) r.tOut r.pOut r.hOut

/-- The end of phase 3: "any overflow event under OVF_POLICY = fault has already raised ARITH_OVERFLOW"; otherwise the
commit, with the last status byte read (rules R200, R207 and R262). -/
def State.conclude (s : State) (status : Byte) : Option Results → Result
  | none => .next (s.raise .arithOverflow)
  | some r => .next (s.commitResults status r)

/-- READ_SENSORS once Ready (rule R200): the status register is read until both busy bits are clear, or until
POLL_LIMIT reads were all busy (TIMEOUT, rule R266); then the eight data bytes are read in one burst; then the
three results are computed and committed together. -/
def sensorsBody (s : State) : Result :=
  match s.latch with
  | [] => .next s.poll
  | .fail :: _ => .next (s.raise .busFailure)
  | [.ok st] =>
    if statusBusy (burstByte st 0) then
      if pollLimitReached s.cfg.pollLimit s.seq.polls then .next (s.raise .timeout) else .next s.poll
    else .next (s.transact s.tsel (.read addrData .eight))
  | .ok _ :: .fail :: _ => .next (s.raise .busFailure)
  | .ok st :: .ok d :: _ => s.conclude (burstByte st 0) (compensate s.cfg s.cal d)

/-- READ_SENSORS (rule R200). -/
def execReadSensors (s : State) : Result := dispatched .readSensors s sensorsBody

end Sys2Proof.Machine
end

