-- ==== Sys2Proof/Machine/Dispatch.lean ====
section
/-! DEFINITION. One arm per command: its meaning for one engine step, "one bus transaction or the command's
completion" (10_state.md rule R29). -/

namespace Sys2Proof.Machine

def exec (i : Instr) (s : State) : Host.Outcome State Fault Refusal :=
  match i with
  | .begin kind payload => Sys2Proof.Machine.execBegin kind payload s
  | .getMode => Sys2Proof.Machine.execGetMode s
  | .setMode mode => Sys2Proof.Machine.execSetMode mode s
  | .setOsr sensor rate => Sys2Proof.Machine.execSetOsr sensor rate s
  | .getOsr actual sensor => Sys2Proof.Machine.execGetOsr actual sensor s
  | .getIir => Sys2Proof.Machine.execGetIir s
  | .setIir v => Sys2Proof.Machine.execSetIir v s
  | .getStandby => Sys2Proof.Machine.execGetStandby s
  | .setStandby v => Sys2Proof.Machine.execSetStandby v s
  | .measTime prec => Sys2Proof.Machine.execMeasTime prec s
  | .readSensors => Sys2Proof.Machine.execReadSensors s
  | .reset => Sys2Proof.Machine.execReset s

end Sys2Proof.Machine
end

