-- ==== Sys2Proof/Machine/Step.lean ====
section
/-! DEFINITION. One step of the machine (10_state.md rules R29, R31 and R41, 30_encoding.md rules R100, R109 and
R114). -/

namespace Sys2Proof.Machine

/-- One step of the engine on the command word `w`: the command it names, or ILLEGAL_COMMAND where it is not
well-formed, which "issues no bus transaction and changes no engine state other than the response registers"
(rules R109 and R114). -/
def runWord (w : CmdWord) (s : State) : Host.Outcome State Fault Refusal :=
  match decode w with
  | .ok i => exec i s
  | .error _ => .next (s.raise .illegalCommand)

/-- One step of the machine: a busy engine goes on with its command; an idle one accepts the word the host
presents, or waits where it presents none (rules R29, R41 and R100, notes/assumptions/4.md). -/
def step (s : State) : Host.Outcome State Fault Refusal :=
  match s.seq with
  | .busy cmd _ _ => runWord cmd s
  | .idle =>
    match s.take with
    | some (w, s') => runWord w s'
    | none => .next s

/-- `s` with the word `w` presented on the command port and the engine ready to take it: SEQ idle, the word in
the place of the one the host presented. The bits above `nbits` are 0 (notes/assumptions/4.md). -/
def State.withFetchWord (s : State) (nbits w : Nat) : State :=
  { s with hostWords := BitVec.ofNat 32 (w % 2 ^ nbits) :: s.hostWords.drop 1, seq := .idle, latch := [] }

end Sys2Proof.Machine
end

