-- ==== Sys2Proof/Machine/Assembler.lean ====
section
/-! DEFINITION. The assembler's lines and the pseudo-instructions (30_encoding.md rules R113 and R115). The machine
does not use this file: it says which commands a line of the spec's programs stands for. -/

namespace Sys2Proof.Machine.Assembler

/-- The mode names of rule R113. -/
inductive ModeName where
  | sleep
  | forced
  | forced2
  | normal
  deriving DecidableEq, Repr

/-- The sensor letters T, H, P, U of rule R113. -/
inductive SensorName where
  | temperature
  | humidity
  | pressure
  | unknown
  deriving DecidableEq, Repr

/-- A rate operand: a code, or one of the names `none`, `x1`, …, `x16` for 0..5 (rule R113). -/
inductive Rate where
  | code (n : Nat)
  | none
  | x1
  | x2
  | x4
  | x8
  | x16
  deriving DecidableEq, Repr

/-- The precision names of rule R113. -/
inductive PrecName where
  | typical
  | maximum
  deriving DecidableEq, Repr

/-- One line of assembler, a form of rule R113 with its operands; numbers are as written. -/
inductive Line where
  | beginI2c (addr : Nat)
  | beginHwSpi (cs : Nat)
  | beginSwSpi (cs mosi miso sck : Nat)
  | getMode
  | setMode (m : ModeName)
  | setOsr (s : SensorName) (r : Rate)
  | getOsr (s : SensorName) (actual : Bool)
  | getIir
  | setIir (v : Nat)
  | getStandby
  | setStandby (v : Nat)
  | measTime (p : PrecName)
  | readSensors
  | reset
  deriving DecidableEq, Repr

/-- A number as a field of `n` bits: "the assembler refuses an operand that does not fit its field" (rule R113). -/
def field (n v : Nat) : Option (BitVec n) := if v < 2 ^ n then some (BitVec.ofNat n v) else none

/-- MODE of a mode name (rules R105 and R113). -/
def modeCode : ModeName → BitVec 2
  | .sleep => 0
  | .forced => 1
  | .forced2 => 2
  | .normal => 3

/-- SENSOR of a sensor letter (rules R106 and R113). -/
def sensorCode : SensorName → BitVec 2
  | .temperature => 0
  | .humidity => 1
  | .pressure => 2
  | .unknown => 3

/-- RATE of a rate operand (rules R106 and R113). -/
def rateCode : Rate → Option (BitVec 3)
  | .code n => field 3 n
  | .none => some 0
  | .x1 => some 1
  | .x2 => some 2
  | .x4 => some 3
  | .x8 => some 4
  | .x16 => some 5

/-- PREC of a precision name (rules R107 and R113). -/
def precCode : PrecName → BitVec 1
  | .typical => 0
  | .maximum => 1

/-- The command a line stands for, or none where an operand does not fit its field (rule R113). -/
def commandOf : Line → Option Instr
  | .beginI2c addr => (field 7 addr).map fun a => .begin 0 (0#17 ++ a)
  | .beginHwSpi cs => (field 6 cs).map fun c => .begin 1 (0#18 ++ c)
  | .beginSwSpi cs mosi miso sck =>
    match field 6 cs, field 6 mosi, field 6 miso, field 6 sck with
    | some c, some o, some i, some k => some (.begin 2 (k ++ i ++ o ++ c))
    | _, _, _, _ => none
  | .getMode => some .getMode
  | .setMode m => some (.setMode (modeCode m))
  | .setOsr s r => (rateCode r).map fun c => .setOsr (sensorCode s) c
  | .getOsr s actual => some (.getOsr (if actual then 1 else 0) (sensorCode s))
  | .getIir => some .getIir
  | .setIir v => (field 3 v).map .setIir
  | .getStandby => some .getStandby
  | .setStandby v => (field 3 v).map .setStandby
  | .measTime p => some (.measTime (precCode p))
  | .readSensors => some .readSensors
  | .reset => some .reset

/-- The command word of a line (rule R113). -/
def assemble (l : Line) : Option CmdWord := (commandOf l).map encode

/-- The pseudo-instructions of rule R115. -/
inductive Pseudo where
  | forcedRead
  | configure (osT osP osH : Rate)
  | probeAndInit (addr : Nat)
  deriving DecidableEq, Repr

/-- The lines a pseudo-instruction expands to (rule R115); CONFIGURE writes humidity first (rule R305). -/
def expand : Pseudo → List Line
  | .forcedRead => [.setMode .forced, .readSensors]
  | .configure osT osP osH => [.setOsr .humidity osH, .setOsr .temperature osT, .setOsr .pressure osP]
  | .probeAndInit addr => [.beginI2c addr]

end Sys2Proof.Machine.Assembler
end

