-- ==== Sys2Proof/Safety.lean ====
section
/-! DEFINITION. What holds of every state a run can reach, and the words the claims are written in: the end of a
command, a transaction, the shapes of the register commands, and the two's-complement datapath.

Nothing the machine does depends on this file. The definitions here restate the spec without the machine's
shared operations, so that a claim is not true only because both sides call the same function. -/

namespace Sys2Proof.Safety

open Sys2Proof.Config Sys2Proof.Machine

/-! ### Invariants -/

/-- The parameters have values rule R9 allows. -/
def cfgOk (s : State) : Bool := s.cfg.wf

/-- Rules R32, R33 and R35: a Ready engine has valid calibration ("`ENG_STATE = Ready ⇒ CAL_VALID = 1` always
holds") and a latched selector (rule R250: "hence TSEL_VALID = 1"); valid calibration has been written. -/
def lifecycleOk (s : State) : Bool :=
  decide ((s.engState = .ready → s.calValid = true ∧ s.tselValid = true) ∧ (s.calValid = true → s.calWritten = true))

/-- A command that reads one register, between its read and its completion. -/
def readRunning (s : State) (step polls : Nat) : Bool :=
  decide (s.engState = .ready ∧ polls = 0 ∧ step = 1 ∧ s.latch.length = 1)

/-- A read-modify-write, between its first transaction and its completion. -/
def writeRunning (s : State) (step polls : Nat) : Bool :=
  decide (s.engState = .ready ∧ polls = 0 ∧ 1 ≤ step ∧ step ≤ 2 ∧ s.latch.length = step)

/-- READ_SENSORS after `polls` status reads: `step` is 0 while the status read repeats, 1 when the burst is next
and 2 when it has been read; at most POLL_LIMIT status reads are made (rules R41, R200 and R266). -/
def sensorsRunning (s : State) (step polls : Nat) : Bool :=
  decide (s.engState = .ready ∧ 1 ≤ polls ∧ ∀ n ∈ s.cfg.pollLimit, polls ≤ n) &&
  match s.latch with
  | [a] => decide (step = if answersIdle a then 1 else 0)
  | [a, _] => answersIdle a && decide (step = 2)
  | _ => false

/-- The command `i` can be executing with this `step` and `pollCount` (rule R41). `step` counts the transactions
made. Commands that make none, and setters and getters with an invalid operand, are never busy. -/
def running (s : State) (i : Instr) (step polls : Nat) : Bool :=
  match i with
  | .begin kind payload =>
    decide (s.engState = .uninitialized ∧ polls = 0 ∧ 1 ≤ step ∧ step ≤ 21 ∧ s.latch.length = step ∧
      (s.tselValid = true → s.tsel = ⟨kind, payload⟩))
  | .getMode => false
  | .setMode _ => writeRunning s step polls
  | .setOsr sensor rate => decide (sensor.toNat < 3 ∧ rate.toNat < 6) && writeRunning s step polls
  | .getOsr _ sensor => decide (sensor.toNat < 3) && readRunning s step polls
  | .getIir => readRunning s step polls
  | .setIir _ => writeRunning s step polls
  | .getStandby => readRunning s step polls
  | .setStandby _ => writeRunning s step polls
  | .measTime _ => false
  | .readSensors => sensorsRunning s step polls
  | .reset =>
    decide (s.engState = .uninitialized ∧ s.tselValid = true ∧ polls = 0 ∧ 1 ≤ step ∧ step ≤ 22 ∧
      s.latch.length = step)

/-- SEQ is idle with nothing received, or busy with a well-formed command at a point its rule has (rule R41). -/
def sequencerOk (s : State) : Bool :=
  match s.seq with
  | .idle => decide (s.latch = [])
  | .busy cmd step polls =>
    match decode cmd with
    | .ok i => running s i step polls
    | .error _ => false

/-- The control invariant: parameters, lifecycle and sequencer. -/
def controlOk (s : State) : Bool := cfgOk s && lifecycleOk s && sequencerOk s

/-- A response as rules R40, R108 and R260 allow it: no reserved status code, flag bits 3..1 zero, and "when the
status is not OK, all three values and the flags are 0". -/
def responseOk (r : Response) : Bool :=
  decide (r.status.toNat ≤ 7 ∧ r.flags.toNat ≤ 1 ∧
    (r.status ≠ 0 → r.flags = 0 ∧ r.v0 = 0 ∧ r.v1 = 0 ∧ r.v2 = 0))

/-- The response registers hold the outcome of the last completed command (rule R40), every response delivered
is one that rule R108 allows, and while none has been delivered the registers are unwritten (rule R51). -/
def responsesOk (s : State) : Bool :=
  s.delivered.all responseOk &&
  match s.delivered with
  | [] => !s.rspWritten
  | r :: _ => s.rspWritten && decide (s.rsp = r)

/-- The output ranges of rule R209, and a guarded pressure reported as 0 (rule R269). -/
def resultsOk (s : State) : Bool :=
  decide (-41943040 ≤ s.results.tOut.toInt ∧ s.results.tOut.toInt ≤ 41943040 ∧
    -(2 ^ 31) ≤ s.results.tFine.toInt ∧ s.results.tFine.toInt < 2 ^ 31 ∧
    s.results.pOut.toNat < 2 ^ 24 ∧ s.results.hQ22_10.toNat ≤ 102400 ∧ s.results.hOut.toNat ≤ 10000 ∧
    (s.results.pGuard = true → s.results.pQ24_8 = 0 ∧ s.results.pOut = 0))

/-! ### The end of a command and a transaction, field by field -/

/-- `s` after a command has ended with this response: the five response registers, their delivery to the host,
SEQ idle and nothing received; every other field as in `s` (rules R100, R108 and R272). -/
def ended (s : State) (status flags : BitVec 4) (v0 v1 v2 : Value) : State :=
  { s with rsp := ⟨status, flags, v0, v1, v2⟩, rspWritten := true, delivered := ⟨status, flags, v0, v1, v2⟩ :: s.delivered, seq := .idle, latch := [] }

/-- `s` after the error `status`: flags and values 0 (rule R108). -/
def failed (s : State) (status : BitVec 4) : State := ended s status 0 0 0 0

/-- `s` after one transaction on the transport `sel`: it stands first in the bus trace with the device's answer,
the answer is used up, the command has received `before` and then this answer, and SEQ is `seq`; every other
field as in `s` (rules R41 and R72). -/
def asked (s : State) (sel : Selector) (t : Transaction) (before : List Answer) (seq : Seq) : State :=
  { s with busTrace := ⟨sel, t, s.ask sel t⟩ :: s.busTrace, script := s.script.tail, latch := before ++ [s.ask sel t], seq := seq }

/-- `s` with the shadows as a READ_SENSORS that ends OK leaves them, `status` being the last status byte it read: where
STATUS_ADDR is 0xF2, 0xF4 or 0xF5, that register's shadow is that byte (rule R37 and 90_conflicts.md C6 over rule R200;
notes/assumptions/10.md); at any other STATUS_ADDR every shadow is as in `s`. -/
def statusMirrored (s : State) (status : Byte) : State :=
  { s with
    shCtrlHum := if s.cfg.statusAddr = 0xF2#8 then status else s.shCtrlHum
    shCtrlMeas := if s.cfg.statusAddr = 0xF4#8 then status else s.shCtrlMeas
    shConfig := if s.cfg.statusAddr = 0xF5#8 then status else s.shConfig }

/-! ### The shapes of the register commands (41_configuration.md) -/

/-- The command `i`, encoded as `word`, reads the register at `addr` and ends OK with `value` of the byte read, after
`commit`; a failed read ends it with BUS_FAILURE (status 3), and before BEGIN it ends NOT_READY (status 5). Each
clause is one engine step of `exec i`; the last one is the command's completion. -/
def IsRegisterRead (i : Instr) (word : CmdWord) (addr : Byte) (commit : State → Byte → State) (value : Byte → Value) : Prop :=
  encode i = word ∧
  (∀ s : State, s.seq = .idle → s.engState = .uninitialized → exec i s = .next (failed s 5)) ∧
  (∀ s : State, s.seq = .idle → s.engState = .ready →
    exec i s = .next (asked s s.tsel (.read addr .one) [] (.busy (encode i) 1 0))) ∧
  (∀ (s : State) (w : CmdWord) (k p : Nat), s.seq = .busy w k p → s.latch = [.fail] →
    exec i s = .next (failed s 3)) ∧
  (∀ (s : State) (w : CmdWord) (k p : Nat) (d : BurstData), s.seq = .busy w k p → s.latch = [.ok d] →
    exec i s = .next (ended (commit s d.b0) 0 0 (value d.b0) 0 0))

/-- The command `i`, encoded as `word`, is a read-modify-write of the register at `addr`: it reads a byte, writes
`modify` of it back, and ends OK after `commit` of the byte written; a failed read ends it with BUS_FAILURE before
the write, and a failed write ends it with BUS_FAILURE, with nothing committed; before BEGIN it ends NOT_READY.
Each clause is one engine step of `exec i`; the last one is the command's completion. -/
def IsReadModifyWrite (i : Instr) (word : CmdWord) (addr : Byte) (modify : Byte → Byte) (commit : State → Byte → State) : Prop :=
  encode i = word ∧
  (∀ s : State, s.seq = .idle → s.engState = .uninitialized → exec i s = .next (failed s 5)) ∧
  (∀ s : State, s.seq = .idle → s.engState = .ready →
    exec i s = .next (asked s s.tsel (.read addr .one) [] (.busy (encode i) 1 0))) ∧
  (∀ (s : State) (w : CmdWord) (k p : Nat), s.seq = .busy w k p → s.latch = [.fail] →
    exec i s = .next (failed s 3)) ∧
  (∀ (s : State) (w : CmdWord) (k p : Nat) (d : BurstData), s.seq = .busy w k p → s.latch = [.ok d] →
    exec i s = .next (asked s s.tsel (.write addr (modify d.b0)) [.ok d] (.busy w (k + 1) p))) ∧
  (∀ (s : State) (w : CmdWord) (k p : Nat) (d : BurstData), s.seq = .busy w k p → s.latch = [.ok d, .fail] →
    exec i s = .next (failed s 3)) ∧
  (∀ (s : State) (w : CmdWord) (k p : Nat) (d e : BurstData), s.seq = .busy w k p → s.latch = [.ok d, .ok e] →
    exec i s = .next (ended (commit s (modify d.b0)) 0 0 0 0 0))

/-! ### The two's-complement datapath (43_compensation.md rule R208)

"Under `OVF_POLICY = wrap` every primitive is two's-complement modular arithmetic at its width": the three
compensations written over bit vectors of 32 and 64 bits. -/

/-- COMP_T's tFine in 32 bits (rule R203). -/
def tFine32 (c : Calibration) (adcT : BitVec 20) : BitVec 32 :=
  let t := adcT.setWidth 32
  let t1 := c.digT1.setWidth 32
  let a1 := t.sshiftRight 3 - (t1 <<< 1)
  let var1 := (a1 * c.digT2.signExtend 32).sshiftRight 11
  let d := t.sshiftRight 4 - t1
  let var2 := (((d * d).sshiftRight 12) * c.digT3.signExtend 32).sshiftRight 14
  var1 + var2

/-- v2 of COMP_P in 64 bits (rule R204). -/
def pressureV2 (c : Calibration) (tfine : BitVec 64) : BitVec 64 :=
  let v1 := tfine - 128000#64
  v1 * v1 * c.digP6.signExtend 64 + ((v1 * c.digP5.signExtend 64) <<< 17) + (c.digP4.signExtend 64 <<< 35)

/-- The denominator intermediate of COMP_P in 64 bits (rule R204). -/
def pressureDen (c : Calibration) (tfine : BitVec 64) : BitVec 64 :=
  let v1 := tfine - 128000#64
  let w := (v1 * v1 * c.digP3.signExtend 64).sshiftRight 8 + ((v1 * c.digP2.signExtend 64) <<< 12)
  ((0x800000000000#64 + w) * c.digP1.setWidth 64).sshiftRight 33

/-- COMP_P's P_Q24_8 in 64 bits, reduced to 32 (rule R204). -/
def pressure32 (c : Calibration) (adcP : BitVec 20) (tfine : BitVec 64) : BitVec 32 :=
  let den := pressureDen c tfine
  if den = 0 then 0
  else
    let p := 1048576#64 - adcP.setWidth 64
    let p := (((p <<< 31) - pressureV2 c tfine) * 3125#64).sdiv den
    let w1 := (c.digP9.signExtend 64 * p.sshiftRight 13 * p.sshiftRight 13).sshiftRight 25
    let w2 := (c.digP8.signExtend 64 * p).sshiftRight 19
    let p := (p + w1 + w2).sshiftRight 8 + (c.digP7.signExtend 64 <<< 4)
    p.setWidth 32

/-- dig_H4 or dig_H5 in 32 bits (rule R133). -/
def h45In32 (e : H45Extend) (v : BitVec 12) : BitVec 32 :=
  match e with
  | .sign => v.signExtend 32
  | .zero => v.setWidth 32

/-- `a` of COMP_H in 32 bits, x = tf - 76800 (rule R205). -/
def humidityA32 (e : H45Extend) (c : Calibration) (adcH : BitVec 16) (x : BitVec 32) : BitVec 32 :=
  let h := (adcH.setWidth 32 <<< 14) - (h45In32 e c.digH4 <<< 20) - (h45In32 e c.digH5 * x)
  (h + 16384#32).sshiftRight 15

/-- `b` of COMP_H in 32 bits, x = tf - 76800 (rule R205). -/
def humidityB32 (c : Calibration) (x : BitVec 32) : BitVec 32 :=
  let b := ((x * c.digH6.signExtend 32).sshiftRight 10 * ((x * c.digH3.setWidth 32).sshiftRight 11 + 32768#32)).sshiftRight 10
  ((b + 2097152#32) * c.digH2.signExtend 32 + 8192#32).sshiftRight 14

/-- COMP_H's intermediate before the clamp, in 32 bits (rule R205). -/
def humidity32 (e : H45Extend) (c : Calibration) (adcH : BitVec 16) (tfine : BitVec 32) : BitVec 32 :=
  let x := tfine - 76800#32
  let x := humidityA32 e c adcH x * humidityB32 c x
  let s := x.sshiftRight 15
  x - ((s * s).sshiftRight 7 * c.digH1.setWidth 32).sshiftRight 4

/-! ### The transactions a command may make (20_memory.md rule R79) -/

/-- The transport a command's transactions carry: "the BEGIN operand during BEGIN, TSEL otherwise" (rule R72). -/
def selectorOf (i : Instr) (s : State) : Selector :=
  match i with
  | .begin kind payload => ⟨kind, payload⟩
  | _ => s.tsel

/-- The reads of BEGIN in order (rules R79, R134 and R140). -/
def beginReads : List Transaction :=
  [.read 0xD0 .one,
   .read 0x88 .two, .read 0x8A .two, .read 0x8C .two, .read 0x8E .two, .read 0x90 .two, .read 0x92 .two,
   .read 0x94 .two, .read 0x96 .two, .read 0x98 .two, .read 0x9A .two, .read 0x9C .two, .read 0x9E .two] ++
  [.read 0xA1 .one, .read 0xE1 .two, .read 0xE3 .one, .read 0xE4 .one, .read 0xE5 .one, .read 0xE5 .one,
   .read 0xE6 .one, .read 0xE7 .one]

/-- Whether `t` reads, or writes any byte to, the register at `addr`. -/
def readsOrWrites (addr : Byte) (t : Transaction) : Bool :=
  match t with
  | .read a .one => decide (a = addr)
  | .write a _ => decide (a = addr)
  | _ => false

/-- The transactions rule R79's table gives each command, with the engine's parameters. -/
def mayIssue (cfg : Params) (i : Instr) (t : Transaction) : Bool :=
  match i with
  | .begin _ _ => decide (t ∈ beginReads)
  | .getMode => false
  | .setMode _ => readsOrWrites 0xF4 t
  | .setOsr sensor _ => if sensor = 1 then readsOrWrites 0xF2 t else readsOrWrites 0xF4 t
  | .getOsr _ sensor => decide (t = .read (if sensor = 1 then 0xF2 else 0xF4) .one)
  | .getIir => decide (t = .read 0xF5 .one)
  | .setIir _ => readsOrWrites 0xF5 t
  | .getStandby => decide (t = .read 0xF5 .one)
  | .setStandby _ => readsOrWrites 0xF5 t
  | .measTime _ => false
  | .readSensors => decide (t = .read cfg.statusAddr .one ∨ t = .read 0xF7 .eight)
  | .reset => decide (t = .write 0xE0 cfg.resetCode ∨ t ∈ beginReads)

/-! ### Tables of the spec, as it prints them -/

/-- The opcode table's rows as (match, mask), in its order (spec/opcode_table.json). -/
def opcodeRows : List (CmdWord × CmdWord) :=
  [(0x00000000, 0xF3000000), (0x10000000, 0xFFFFFFFF), (0x20000000, 0xFFFFFFFC), (0x30000000, 0xFFFFFFC8),
   (0x40000000, 0xFFFFFECF), (0x50000000, 0xFFFFFFFF), (0x60000000, 0xFFFFFFF8), (0x70000000, 0xFFFFFFFF),
   (0x80000000, 0xFFFFFFF8), (0x90000000, 0xFFFFFFFE), (0xA0000000, 0xFFFFFFFF), (0xB0000000, 0xFFFFFFFF)]

/-- Rule R109: a word matches a row of the opcode table, that is its OP is 0x0..0xB and its reserved bits are 0, and,
for BEGIN, TKIND is 0 with payload bits [23:7] zero, 1 with [23:6] zero, or 2 (rule R103). -/
def wordWellFormed (w : CmdWord) : Prop :=
  (∃ row ∈ opcodeRows, w &&& row.2 = row.1) ∧
  (w.extractLsb' 28 4 = 0#4 →
    (w.extractLsb' 26 2 = 0#2 ∧ w.extractLsb' 7 17 = 0#17) ∨ (w.extractLsb' 26 2 = 1#2 ∧ w.extractLsb' 6 18 = 0#18) ∨
      w.extractLsb' 26 2 = 2#2)

/-- The table of rule R164: code to multiplier. -/
def multiplier (code : BitVec 3) : Nat := ([0, 1, 2, 4, 8, 16, 16, 16] : List Nat).getD code.toNat 0

/-- The table of rule R169: t_sb code to microseconds. -/
def standbyUs (code : BitVec 3) : Nat :=
  ([500, 62500, 125000, 250000, 500000, 1000000, 10000, 20000] : List Nat).getD code.toNat 0

/-- The status read found the device idle: answered `ok`, with bits 3 and 0 clear (rule R200). -/
def foundIdle (a : Answer) : Bool :=
  match a with
  | .fail => false
  | .ok d => decide (d.b0 &&& 0x09#8 = 0#8)

end Sys2Proof.Safety
end

