-- ==== Sys2Proof/Certificates/Slice0/Obligations.lean ====
section
/-! DEFINITION. The statements for the provers, each from a rule of the spec. A record update of `s` on the right of an
equation says the frame as well: every field it does not name is as in `s`. -/

open Sys2Proof Sys2Proof.Config Sys2Proof.Machine Sys2Proof.Safety

/-! ### Encoding -/

/-- Decoding an encoded well-formed command gives it back, for every command and every operand value its encoding
admits (30_encoding.md rules R101 to R104). -/
def Obligations.DecodeOfEncode : Prop :=
  ∀ i : Instr, i.wellFormed = true → decode (encode i) = .ok i

/-- "Every well-formed word names exactly one command of rule R102" (rule R110): a word that decodes is the
encoding of the command it decodes to, and that command is well-formed. No bit of a word is dropped. -/
def Obligations.EncodeOfDecode : Prop :=
  ∀ (w : CmdWord) (i : Instr), decode w = .ok i → i.wellFormed = true ∧ encode i = w

/-- "A command word is well-formed when its OP is 0x0..0xB and every reserved bit of its layout (rules R103, R104)
is 0. For BEGIN, TKIND must also be 0..2" (rule R109): the words the decoder accepts are exactly those. -/
def Obligations.DecoderAcceptsTheWellFormedWords : Prop :=
  ∀ w : CmdWord, (∃ i, decode w = .ok i) ↔ wordWellFormed w

/-- Words written out from the encoding summary of 30_encoding.md decode to the commands they stand for, and three
ill-formed words to none. That each of these is rejected under a name of its own is the model's choice, not the
spec's (DESIGN CHOICE, assumption 20): rule R109 gives every such word ILLEGAL_COMMAND and no reason. -/
def Obligations.SampleWordsDecode : Prop :=
  decode 0x00000076 = .ok (.begin 0 0x76) ∧ decode 0x0834C2CA = .ok (.begin 2 0x34C2CA) ∧
  decode 0x20000003 = .ok (.setMode 3) ∧ decode 0x30000024 = .ok (.setOsr 2 4) ∧
  decode 0x40000120 = .ok (.getOsr 1 2) ∧ decode 0x80000005 = .ok (.setStandby 5) ∧
  decode 0x90000001 = .ok (.measTime 1) ∧ decode 0xA0000000 = .ok .readSensors ∧
  decode 0xB0000000 = .ok .reset ∧ decode 0x20000004 = .error .reservedBits ∧
  decode 0x0C000000 = .error .reservedKind ∧ decode 0xC0000000 = .error .reservedOpcode

/-- "The assembler refuses an operand that does not fit its field. It never emits a reserved bit" (rule R113): every
word it emits decodes to the command of its line. -/
def Obligations.AssemblerEmitsWellFormedWords : Prop :=
  ∀ (l : Assembler.Line) (w : CmdWord), Assembler.assemble l = some w →
    ∃ i, Assembler.commandOf l = some i ∧ decode w = .ok i

/-! ### A step of the machine -/

/-- A step runs the decoded command: an idle engine takes the word the host presents and runs the command it
decodes to, on the state without that word; a busy one goes on with the command it is executing (rules R41, R100
and R114). -/
def Obligations.StepRunsTheDecodedCommand : Prop :=
  (∀ (s : State) (w : CmdWord) (ws : List CmdWord) (i : Instr), s.seq = .idle → s.hostWords = w :: ws →
    decode w = .ok i → Sys2Proof.Machine.step s = Sys2Proof.Machine.exec i { s with hostWords := ws }) ∧
  (∀ (s : State) (w : CmdWord) (k p : Nat) (i : Instr), s.seq = .busy w k p → decode w = .ok i →
    Sys2Proof.Machine.step s = Sys2Proof.Machine.exec i s)

/-- "A word that is not well-formed completes with status ILLEGAL_COMMAND. It issues no bus transaction and changes no
engine state other than the response registers" (rules R109 and R268). -/
def Obligations.IllFormedWordIsIllegalCommand : Prop :=
  ∀ (s : State) (w : CmdWord) (ws : List CmdWord), s.seq = .idle → s.hostWords = w :: ws →
    ¬ wordWellFormed w → Sys2Proof.Machine.step s = .next (failed { s with hostWords := ws } 6)

/-- An idle engine to which the host presents no word waits (the model's reading of rule R100, assumption 4). -/
def Obligations.IdleEngineWaitsForAWord : Prop :=
  ∀ s : State, s.seq = .idle → s.hostWords = [] → Sys2Proof.Machine.step s = .next s

/-- "While SEQ is busy the host holds the word; the engine never drops or queues one" (rule R100): a busy engine's step
takes no word, and an idle one takes the first word and no other. -/
def Obligations.HostWordsAreTakenOnlyWhenIdle : Prop :=
  ∀ s t : State, Sys2Proof.Machine.step s = .next t →
    (s.seq ≠ .idle → t.hostWords = s.hostWords) ∧ (s.seq = .idle → t.hostWords = s.hostWords.drop 1)

/-- "There is no trap entry" and no error stops the engine (rules R272 and R273): a step answers a next state from
every state. -/
def Obligations.EveryStepAnswersANextState : Prop :=
  ∀ s : State, ∃ t, Sys2Proof.Machine.step s = .next t

/-- "Each step is one bus transaction or the command's completion" (rule R29), and "SEQ is busy from the acceptance of
a command word until its response is written" (rule R41): a step of a command either makes one transaction, stays
busy and writes no response, or makes none, writes the response, delivers it and leaves SEQ idle. -/
def Obligations.EachStepIsATransactionOrTheCompletion : Prop :=
  ∀ (i : Instr) (s t : State), Sys2Proof.Machine.exec i s = .next t →
    ((∃ e, t.busTrace = e :: s.busTrace) ∧ t.seq ≠ .idle ∧ t.delivered = s.delivered ∧ t.rsp = s.rsp ∧
      t.rspWritten = s.rspWritten ∧ t.script = s.script.tail) ∨
    (t.busTrace = s.busTrace ∧ t.seq = .idle ∧ t.latch = [] ∧ t.delivered = t.rsp :: s.delivered ∧
      t.rspWritten = true ∧ t.script = s.script)

/-- "NOT_READY is raised by every command except BEGIN when ENG_STATE = Uninitialized. No transaction is issued and no
state changes" (rules R114 and R267). -/
def Obligations.NotReadyUntilBegin : Prop :=
  ∀ (i : Instr) (s : State), (∀ kind payload, i ≠ .begin kind payload) → s.seq = .idle →
    s.engState = .uninitialized → Sys2Proof.Machine.exec i s = .next (failed s 5)

/-- The access widths of rule R79's table, and "every transaction carries the transport selector in use: the BEGIN
operand during BEGIN, TSEL otherwise" (rule R72): a command makes at most one transaction a step, only one its
row of the table lists, on that transport, answered by the device. -/
def Obligations.TransactionsAreThoseOfTheTable : Prop :=
  ∀ (i : Instr) (s t : State), Sys2Proof.Machine.exec i s = .next t →
    t.busTrace = s.busTrace ∨
    ∃ e, t.busTrace = e :: s.busTrace ∧ e.sel = selectorOf i s ∧ mayIssue s.cfg i e.txn = true ∧
      e.answer = s.ask e.sel e.txn

/-- The parameters are fixed for the machine (rule R9): no step changes them. -/
def Obligations.ParametersNeverChange : Prop :=
  ∀ s t : State, Sys2Proof.Machine.step s = .next t → t.cfg = s.cfg

/-! ### Power-on and invariants -/

/-- The power-on values of rule R51 that the spec gives; the registers it calls unwritten show no value. -/
def Obligations.PowerOnState : Prop :=
  State.reset.engState = .uninitialized ∧ State.reset.tselValid = false ∧ State.reset.tsel? = none ∧
  State.reset.calValid = false ∧ State.reset.cal? = none ∧ State.reset.modeCache = 0 ∧
  State.reset.shCtrlHum = 0 ∧ State.reset.shCtrlMeas = 0 ∧ State.reset.shConfig = 0 ∧
  State.reset.results? = none ∧ State.reset.rsp? = none ∧ State.reset.seq = .idle

/-- The power-on state meets the three invariants. The result invariant holds there by the model's choice, not by the
spec: it reads the result registers directly, and they hold the zeros of assumption 5 (DESIGN CHOICE) while rules R38
and R51 call them unwritten and give them no value. -/
def Obligations.PowerOnMeetsTheInvariants : Prop :=
  controlOk State.reset = true ∧ responsesOk State.reset = true ∧ resultsOk State.reset = true

/-- The control invariant is kept by every step: a Ready engine has valid calibration and a latched transport (rules
R33, R35 and R250), and SEQ is idle or busy with a well-formed command at a point its rule has, READ_SENSORS with
at most POLL_LIMIT status reads (rules R41 and R266). -/
def Obligations.ControlInvariantIsKept : Prop :=
  ∀ s t : State, controlOk s = true → Sys2Proof.Machine.step s = .next t → controlOk t = true

/-- Every step keeps the response invariant: no reserved status code, flag bits 3..1 zero, zero values with every
error, and the response registers hold the last outcome delivered (rules R40, R108 and R260). -/
def Obligations.ResponseInvariantIsKept : Prop :=
  ∀ s t : State, responsesOk s = true → Sys2Proof.Machine.step s = .next t → responsesOk t = true

/-- "A value outside these ranges cannot be produced by rules R203 to R206" (rule R209, which the spec marks as derived):
every step keeps the output ranges, under either overflow policy and for every calibration and raw value. -/
def Obligations.ResultRangesAreKept : Prop :=
  ∀ s t : State, resultsOk s = true → Sys2Proof.Machine.step s = .next t → resultsOk t = true

/-- "Transport selection is fixed at initialization ... and is immutable for the life of the instance" (rule R33): once
latched, TSEL stays valid and unchanged by every step from a state of the control invariant. -/
def Obligations.LatchedTransportIsImmutable : Prop :=
  ∀ s t : State, controlOk s = true → s.tselValid = true → Sys2Proof.Machine.step s = .next t →
    t.tselValid = true ∧ t.tsel = s.tsel

/-! ### Who writes what -/

/-- "BEGIN writes ENG_STATE. RESET writes ENG_STATE. No other command writes it" (rule R32); only they write the
calibration file and CAL_VALID (rules R34 and R35), and no command but BEGIN writes TSEL (rule R33). -/
def Obligations.OnlyBeginAndResetWriteTheLifecycle : Prop :=
  ∀ (i : Instr) (s t : State), (∀ kind payload, i ≠ .begin kind payload) → Sys2Proof.Machine.exec i s = .next t →
    t.tsel = s.tsel ∧ t.tselValid = s.tselValid ∧
    (i ≠ .reset → t.engState = s.engState ∧ t.calValid = s.calValid ∧ t.cal = s.cal ∧ t.calWritten = s.calWritten)

/-- "Only a READ_SENSORS that completes with status OK writes them, and it writes all of them together" (rule R38). -/
def Obligations.OnlyReadSensorsWritesResults : Prop :=
  ∀ (i : Instr) (s t : State), Sys2Proof.Machine.exec i s = .next t →
    (t.results = s.results ∧ t.resultsWritten = s.resultsWritten) ∨
    (i = .readSensors ∧ t.seq = .idle ∧ t.rsp.status = 0 ∧ t.resultsWritten = true)

/-- MODE_CACHE is written by a SET_MODE that ends OK, with its operand, and by RESET, with 0 (Sleep); by nothing else
(rule R36). -/
def Obligations.OnlySetModeAndResetWriteModeCache : Prop :=
  ∀ (i : Instr) (s t : State), Sys2Proof.Machine.exec i s = .next t →
    t.modeCache = s.modeCache ∨
    (∃ mode, i = .setMode mode ∧ t.modeCache = mode ∧ t.seq = .idle ∧ t.rsp.status = 0) ∨
    (i = .reset ∧ t.modeCache = 0)

/-- "A command that ends with an error leaves every shadow unchanged. The one exception is RESET" (rule R37): a step of
another command changes a shadow only when it ends the command with status OK, and RESET's only value is 0x00. -/
def Obligations.ShadowsChangeOnlyOnSuccess : Prop :=
  ∀ (i : Instr) (s t : State), Sys2Proof.Machine.exec i s = .next t →
    (t.shCtrlHum = s.shCtrlHum ∧ t.shCtrlMeas = s.shCtrlMeas ∧ t.shConfig = s.shConfig) ∨
    (i ≠ .reset ∧ t.seq = .idle ∧ t.rsp.status = 0) ∨
    (i = .reset ∧ t.shCtrlHum = 0 ∧ t.shCtrlMeas = 0 ∧ t.shConfig = 0)

/-! ### BEGIN -/

/-- A BEGIN past its selector check clears ENG_STATE and CAL_VALID and reads the chip-id on the transport it names
(rule R140). -/
def Obligations.BeginStartsWithTheChipId : Prop :=
  ∀ (s : State) (kind : BitVec 2) (payload : BitVec 24), s.seq = .idle →
    (s.tselValid = false ∨ (⟨kind, payload⟩ : Selector) = s.tsel) →
    Sys2Proof.Machine.exec (.begin kind payload) s =
      .next (asked { s with engState := .uninitialized, calValid := false } ⟨kind, payload⟩ (.read 0xD0 .one) []
        (.busy (encode (.begin kind payload)) 1 0))

/-- "DEVICE_NOT_FOUND is raised by BEGIN, and by the BEGIN body inside RESET, when the chip-id read fails or returns a
byte ≠ CHIP_ID" (rule R263), and no state but the response changes at that end (rule R272). -/
def Obligations.ChipIdMismatchIsDeviceNotFound : Prop :=
  ∀ (s : State) (w : CmdWord) (k p : Nat) (a : Answer) (cals : List Answer), s.seq = .busy w k p →
    (a = .fail ∨ ∃ d, a = .ok d ∧ d.b0 ≠ s.cfg.chipId) →
    (∀ kind payload, s.latch = a :: cals → Sys2Proof.Machine.exec (.begin kind payload) s = .next (failed s 1)) ∧
    (∀ e : BurstData, s.latch = .ok e :: a :: cals → Sys2Proof.Machine.exec .reset s = .next (failed s 1))

/-- LOAD_CAL inside BEGIN (rule R134): once the chip-id matched, "the first transaction answered `fail` stops LOAD_CAL
with raise BUS_FAILURE, and no later transaction is issued"; otherwise the reads follow in the listed order, each
on the selector of the BEGIN in progress. -/
def Obligations.BeginLoadsCalibrationInOrder : Prop :=
  ∀ (s : State) (kind : BitVec 2) (payload : BitVec 24) (w : CmdWord) (k p : Nat) (d : BurstData) (cals : List Answer),
    s.seq = .busy w k p → s.latch = .ok d :: cals → d.b0 = s.cfg.chipId →
    (.fail ∈ cals → Sys2Proof.Machine.exec (.begin kind payload) s = .next (failed s 3)) ∧
    (∀ t, .fail ∉ cals → beginReads[cals.length + 1]? = some t →
      Sys2Proof.Machine.exec (.begin kind payload) s =
        .next (asked s ⟨kind, payload⟩ t (.ok d :: cals) (.busy w (k + 1) p)))

/-- A BEGIN whose chip-id matched and whose twenty calibration reads were answered `ok` ends OK: all 18 calibration
registers at once from the answers (little-endian words, dig_H4 and dig_H5 from the shared byte's two reads),
CAL_VALID 1, Ready, TSEL latched; MODE_CACHE, the shadows and the results as they were (rules R130 to R134, R140). -/
def Obligations.BeginCompletes : Prop :=
  ∀ (s : State) (kind : BitVec 2) (payload : BitVec 24) (w : CmdWord) (k p : Nat) (d : BurstData) (c : Nat → BurstData),
    s.seq = .busy w k p → d.b0 = s.cfg.chipId → s.latch = .ok d :: (List.range 20).map (fun n => .ok (c n)) →
    Sys2Proof.Machine.exec (.begin kind payload) s = .next (ended { s with
      cal := {
        digT1 := (c 0).b1 ++ (c 0).b0, digT2 := (c 1).b1 ++ (c 1).b0, digT3 := (c 2).b1 ++ (c 2).b0,
        digP1 := (c 3).b1 ++ (c 3).b0, digP2 := (c 4).b1 ++ (c 4).b0, digP3 := (c 5).b1 ++ (c 5).b0,
        digP4 := (c 6).b1 ++ (c 6).b0, digP5 := (c 7).b1 ++ (c 7).b0, digP6 := (c 8).b1 ++ (c 8).b0,
        digP7 := (c 9).b1 ++ (c 9).b0, digP8 := (c 10).b1 ++ (c 10).b0, digP9 := (c 11).b1 ++ (c 11).b0,
        digH1 := (c 12).b0, digH2 := (c 13).b1 ++ (c 13).b0, digH3 := (c 14).b0,
        digH4 := (c 15).b0 ++ (c 16).b0.extractLsb' 0 4, digH5 := (c 18).b0 ++ (c 17).b0.extractLsb' 4 4,
        digH6 := (c 19).b0 }
      calWritten := true, calValid := true, engState := .ready, tsel := ⟨kind, payload⟩, tselValid := true } 0 0 0 0 0)

/-- The constants as values: dig_T1, dig_P1 and every other word `w(a) = b[a] + 256·b[a+1]`, signed where rule R131 and
R132 say so, and the nibble swap of rule R133 widened by `H45_EXTEND`. -/
def Obligations.CalibrationValuesFromBytes : Prop :=
  ∀ (lo hi msb shared : Byte) (e : H45Extend),
    zext (hi ++ lo) = lo.toNat + 256 * hi.toNat ∧
    sext (hi ++ lo) = (if 128 ≤ hi.toNat then ((lo.toNat + 256 * hi.toNat : Nat) : Int) - 65536 else lo.toNat + 256 * hi.toNat) ∧
    extendH45 e (msb ++ shared.extractLsb' 0 4) =
      (if e = .sign ∧ 128 ≤ msb.toNat then ((msb.toNat * 16 + shared.toNat % 16 : Nat) : Int) - 4096
        else msb.toNat * 16 + shared.toNat % 16) ∧
    extendH45 e (msb ++ shared.extractLsb' 4 4) =
      (if e = .sign ∧ 128 ≤ msb.toNat then ((msb.toNat * 16 + shared.toNat / 16 : Nat) : Int) - 4096
        else msb.toNat * 16 + shared.toNat / 16)

/-- A whole BEGIN from its acceptance: presented to an idle engine and answered `ok` throughout with a matching
chip-id, it makes the 21 reads of rule R79 in order and is Ready, with an OK response, after 22 steps. -/
def Obligations.BeginRunsFromAcceptanceToReady : Prop :=
  ∀ (s : State) (w : CmdWord) (ws : List CmdWord) (kind : BitVec 2) (payload : BitVec 24) (d : BurstData)
    (c : Nat → BurstData) (rest : List Answer),
    s.seq = .idle → s.hostWords = w :: ws → decode w = .ok (.begin kind payload) →
    (s.tselValid = false ∨ (⟨kind, payload⟩ : Selector) = s.tsel) → d.b0 = s.cfg.chipId →
    s.script = .ok d :: ((List.range 20).map (fun n => .ok (c n)) ++ rest) →
    ∃ t, Host.Core.run Sys2Proof.core 22 s = .next t ∧ t.seq = .idle ∧ t.engState = .ready ∧ t.calValid = true ∧
      t.tselValid = true ∧ t.tsel = ⟨kind, payload⟩ ∧ t.rsp = ⟨0, 0, 0, 0, 0⟩ ∧ t.hostWords = ws ∧ t.script = rest ∧
      t.busTrace.map (·.txn) = beginReads.reverse ++ s.busTrace.map (·.txn)

/-! ### RESET -/

/-- RESET's reset write (rule R250): ENG_STATE and CAL_VALID are cleared, RESET_CODE is written to 0xE0 on TSEL, and
MODE_CACHE and the shadows become 0 where, and only where, that write succeeded. That they do so in the very step of
the write is the model's choice (DEDUCED, assumption 6): the rule says "once the reset write has succeeded". -/
def Obligations.ResetWritesTheResetCode : Prop :=
  ∀ s : State, s.seq = .idle → s.engState = .ready →
    (s.ask s.tsel (.write 0xE0 s.cfg.resetCode) = .fail →
      Sys2Proof.Machine.exec .reset s =
        .next (asked { s with engState := .uninitialized, calValid := false } s.tsel (.write 0xE0 s.cfg.resetCode) []
          (.busy (encode .reset) 1 0))) ∧
    (∀ d, s.ask s.tsel (.write 0xE0 s.cfg.resetCode) = .ok d →
      Sys2Proof.Machine.exec .reset s =
        .next (asked { s with
          engState := .uninitialized, calValid := false, modeCache := 0, shCtrlHum := 0, shCtrlMeas := 0, shConfig := 0 }
          s.tsel (.write 0xE0 s.cfg.resetCode) [] (.busy (encode .reset) 1 0)))

/-- RESET after its reset write (rule R250): a failed write ends it BUS_FAILURE; otherwise the body of BEGIN runs on TSEL
from the chip-id read on, and a failed calibration read ends it BUS_FAILURE. -/
def Obligations.ResetRerunsTheBeginBody : Prop :=
  ∀ (s : State) (w : CmdWord) (k p : Nat), s.seq = .busy w k p →
    (∀ rest, s.latch = .fail :: rest → Sys2Proof.Machine.exec .reset s = .next (failed s 3)) ∧
    (∀ e : BurstData, s.latch = [.ok e] →
      Sys2Proof.Machine.exec .reset s = .next (asked s s.tsel (.read 0xD0 .one) [.ok e] (.busy w (k + 1) p))) ∧
    (∀ (e d : BurstData) (cals : List Answer), s.latch = .ok e :: .ok d :: cals → d.b0 = s.cfg.chipId →
      (.fail ∈ cals → Sys2Proof.Machine.exec .reset s = .next (failed s 3)) ∧
      (∀ t, .fail ∉ cals → beginReads[cals.length + 1]? = some t →
        Sys2Proof.Machine.exec .reset s = .next (asked s s.tsel t (.ok e :: .ok d :: cals) (.busy w (k + 1) p))))

/-- A RESET whose reset write succeeded, whose chip-id matched and whose calibration reads were answered `ok` ends OK:
the calibration file from the answers, CAL_VALID 1, Ready; TSEL and the results as they were (rule R250). -/
def Obligations.ResetCompletes : Prop :=
  ∀ (s : State) (w : CmdWord) (k p : Nat) (e d : BurstData) (c : Nat → BurstData),
    s.seq = .busy w k p → d.b0 = s.cfg.chipId → s.latch = .ok e :: .ok d :: (List.range 20).map (fun n => .ok (c n)) →
    Sys2Proof.Machine.exec .reset s = .next (ended { s with
      cal := {
        digT1 := (c 0).b1 ++ (c 0).b0, digT2 := (c 1).b1 ++ (c 1).b0, digT3 := (c 2).b1 ++ (c 2).b0,
        digP1 := (c 3).b1 ++ (c 3).b0, digP2 := (c 4).b1 ++ (c 4).b0, digP3 := (c 5).b1 ++ (c 5).b0,
        digP4 := (c 6).b1 ++ (c 6).b0, digP5 := (c 7).b1 ++ (c 7).b0, digP6 := (c 8).b1 ++ (c 8).b0,
        digP7 := (c 9).b1 ++ (c 9).b0, digP8 := (c 10).b1 ++ (c 10).b0, digP9 := (c 11).b1 ++ (c 11).b0,
        digH1 := (c 12).b0, digH2 := (c 13).b1 ++ (c 13).b0, digH3 := (c 14).b0,
        digH4 := (c 15).b0 ++ (c 16).b0.extractLsb' 0 4, digH5 := (c 18).b0 ++ (c 17).b0.extractLsb' 4 4,
        digH6 := (c 19).b0 }
      calWritten := true, calValid := true, engState := .ready } 0 0 0 0 0)

/-! ### Configuration -/

/-- GET_MODE returns MODE_CACHE with no bus access and changes nothing but the response; before BEGIN it ends NOT_READY
(rule R160). -/
def Obligations.GetModeReturnsTheCache : Prop :=
  encode .getMode = 0x10000000#32 ∧
  ∀ s : State, s.seq = .idle →
    (s.engState = .ready → Sys2Proof.Machine.exec .getMode s = .next (ended s 0 0 (s.modeCache.setWidth 32) 0 0)) ∧
    (s.engState = .uninitialized → Sys2Proof.Machine.exec .getMode s = .next (failed s 5))

/-- SET_MODE writes the two mode bits of ctrl_meas, "all other bits preserved via read-modify-write", and on success
MODE_CACHE and SH_CTRL_MEAS (rule R161). -/
def Obligations.SetModeWritesTheModeBits : Prop :=
  ∀ mode : BitVec 2, IsReadModifyWrite (.setMode mode) (0x20000000#32 ||| mode.setWidth 32) 0xF4 (fun r => (r &&& 0xFC#8) ||| mode.setWidth 8)
    (fun s v => { s with modeCache := mode, shCtrlMeas := v })

/-- SET_OSR refuses SENSOR ≥ 3 or RATE ≥ 6 with INVALID_PARAMETER and no transaction; otherwise it writes one
oversampling field by read-modify-write, with the keep masks 0x1F (T), 0xE3 (P) and 0xF8 (H), and on success that
register's shadow; MODE_CACHE is not written (rule R162). -/
def Obligations.SetOsrWritesOneField : Prop :=
  ∀ rate : BitVec 3,
    (rate.toNat < 6 →
      IsReadModifyWrite (.setOsr 0 rate) (0x30000000#32 ||| rate.setWidth 32) 0xF4
        (fun r => (r &&& 0x1F#8) ||| (rate.setWidth 8 <<< 5)) (fun s v => { s with shCtrlMeas := v }) ∧
      IsReadModifyWrite (.setOsr 1 rate) (0x30000010#32 ||| rate.setWidth 32) 0xF2
        (fun r => (r &&& 0xF8#8) ||| rate.setWidth 8) (fun s v => { s with shCtrlHum := v }) ∧
      IsReadModifyWrite (.setOsr 2 rate) (0x30000020#32 ||| rate.setWidth 32) 0xF4
        (fun r => (r &&& 0xE3#8) ||| (rate.setWidth 8 <<< 2)) (fun s v => { s with shCtrlMeas := v })) ∧
    (∀ (sensor : BitVec 2) (s : State), s.seq = .idle → s.engState = .ready → 3 ≤ sensor.toNat ∨ 6 ≤ rate.toNat →
      Sys2Proof.Machine.exec (.setOsr sensor rate) s = .next (failed s 2))

/-- INVALID_PARAMETER is raised "by SET_OSR when SENSOR ≥ 3 or RATE ≥ 6; by GET_OSR when SENSOR ≥ 3; by BEGIN when
TSEL_VALID = 1 and its selector differs from TSEL", before any transaction and with no state change (rule R265);
and it is raised by nothing else. -/
def Obligations.InvalidParametersAreRefused : Prop :=
  (∀ s : State, s.seq = .idle →
    (∀ (sensor : BitVec 2) (rate : BitVec 3), s.engState = .ready → 3 ≤ sensor.toNat ∨ 6 ≤ rate.toNat →
      Sys2Proof.Machine.exec (.setOsr sensor rate) s = .next (failed s 2)) ∧
    (∀ (actual : BitVec 1) (sensor : BitVec 2), s.engState = .ready → 3 ≤ sensor.toNat →
      Sys2Proof.Machine.exec (.getOsr actual sensor) s = .next (failed s 2)) ∧
    (∀ (kind : BitVec 2) (payload : BitVec 24), s.tselValid = true → (⟨kind, payload⟩ : Selector) ≠ s.tsel →
      Sys2Proof.Machine.exec (.begin kind payload) s = .next (failed s 2))) ∧
  (∀ (i : Instr) (s t : State), Sys2Proof.Machine.exec i s = .next t → t.seq = .idle → t.rsp.status = 2 →
    (∃ sensor rate, i = .setOsr sensor rate ∧ (3 ≤ sensor.toNat ∨ 6 ≤ rate.toNat)) ∨
    (∃ actual sensor, i = .getOsr actual sensor ∧ 3 ≤ sensor.toNat) ∨
    (∃ kind payload, i = .begin kind payload ∧ s.tselValid = true ∧ (⟨kind, payload⟩ : Selector) ≠ s.tsel))

/-- GET_OSR reads one oversampling code back from the device, raw or, with ACTUAL, as its multiplier by the table of rule
R164, and updates the register's shadow; SENSOR ≥ 3 is refused with INVALID_PARAMETER (rule R163). -/
def Obligations.GetOsrReadsBackACode : Prop :=
  ∀ actual : BitVec 1,
    IsRegisterRead (.getOsr actual 0) (0x40000000#32 ||| (actual.setWidth 32 <<< 8)) 0xF4 (fun s r => { s with shCtrlMeas := r })
      (fun r => if actual = 1 then BitVec.ofNat 32 (multiplier (r.extractLsb' 5 3)) else (r.extractLsb' 5 3).setWidth 32) ∧
    IsRegisterRead (.getOsr actual 1) (0x40000010#32 ||| (actual.setWidth 32 <<< 8)) 0xF2 (fun s r => { s with shCtrlHum := r })
      (fun r => if actual = 1 then BitVec.ofNat 32 (multiplier (r.extractLsb' 0 3)) else (r.extractLsb' 0 3).setWidth 32) ∧
    IsRegisterRead (.getOsr actual 2) (0x40000020#32 ||| (actual.setWidth 32 <<< 8)) 0xF4 (fun s r => { s with shCtrlMeas := r })
      (fun r => if actual = 1 then BitVec.ofNat 32 (multiplier (r.extractLsb' 2 3)) else (r.extractLsb' 2 3).setWidth 32) ∧
    (∀ s : State, s.seq = .idle → s.engState = .ready → Sys2Proof.Machine.exec (.getOsr actual 3) s = .next (failed s 2))

/-- OSR_MULT is the exact table of rule R164, entry by entry. -/
def Obligations.OversamplingTable : Prop :=
  ∀ code : BitVec 3, osrMult code = multiplier code

/-- GET_IIR and GET_STANDBY read config, update SH_CONFIG and return their field (rules R165 and R167). -/
def Obligations.ConfigGettersReadTheirField : Prop :=
  IsRegisterRead .getIir 0x50000000#32 0xF5 (fun s r => { s with shConfig := r }) (fun r => (r.setWidth 32 >>> 2) &&& 7#32) ∧
  IsRegisterRead .getStandby 0x70000000#32 0xF5 (fun s r => { s with shConfig := r }) (fun r => (r.setWidth 32 >>> 5) &&& 7#32)

/-- SET_IIR and SET_STANDBY write their field of config by read-modify-write, the other bits preserved, and on success
SH_CONFIG (rules R166 and R168). -/
def Obligations.ConfigSettersWriteTheirField : Prop :=
  ∀ v : BitVec 3,
    IsReadModifyWrite (.setIir v) (0x60000000#32 ||| v.setWidth 32) 0xF5
      (fun r => (r &&& 0xE3#8) ||| (v.setWidth 8 <<< 2)) (fun s b => { s with shConfig := b }) ∧
    IsReadModifyWrite (.setStandby v) (0x80000000#32 ||| v.setWidth 32) 0xF5
      (fun r => (r &&& 0x1F#8) ||| (v.setWidth 8 <<< 5)) (fun s b => { s with shConfig := b })

/-- "A SET_MODE then GET_MODE round-trip returns the code for each of the four values, and the written byte differs from
the read byte only in bits [1:0]" (rule R161): four steps from the two words the host presents. -/
def Obligations.SetModeGetModeRoundTrip : Prop :=
  ∀ (s : State) (mode : BitVec 2) (ws : List CmdWord) (d e : BurstData) (rest : List Answer),
    s.seq = .idle → s.engState = .ready → s.hostWords = encode (.setMode mode) :: encode .getMode :: ws →
    s.script = .ok d :: .ok e :: rest →
    ∃ t v, Host.Core.run Sys2Proof.core 4 s = .next t ∧ t.rsp = ⟨0, 0, mode.setWidth 32, 0, 0⟩ ∧
      t.busTrace = ⟨s.tsel, .write 0xF4 v, .ok e⟩ :: ⟨s.tsel, .read 0xF4 .one, .ok d⟩ :: s.busTrace ∧
      v &&& 0xFC#8 = d.b0 &&& 0xFC#8 ∧ v.extractLsb' 0 2 = mode

/-- "For every valid (sensor, rate), a SET_OSR then GET_OSR sensor returns exactly RATE, given a device that reads back
what was written" (rule R162): five steps from the two words, the last answer being the byte written. -/
def Obligations.SetOsrGetOsrRoundTrip : Prop :=
  ∀ (s : State) (sensor : BitVec 2) (rate : BitVec 3) (ws : List CmdWord) (d e f : BurstData) (rest : List Answer),
    sensor.toNat < 3 → rate.toNat < 6 → s.seq = .idle → s.engState = .ready →
    s.hostWords = encode (.setOsr sensor rate) :: encode (.getOsr 0 sensor) :: ws →
    s.script = .ok d :: .ok e :: .ok f :: rest →
    (∀ addr v u, Host.Core.run Sys2Proof.core 2 s = .next u → u.busTrace.head? = some ⟨s.tsel, .write addr v, .ok e⟩ → f.b0 = v) →
    ∃ t, Host.Core.run Sys2Proof.core 5 s = .next t ∧ t.rsp = ⟨0, 0, rate.setWidth 32, 0, 0⟩

/-! ### MEAS_TIME -/

/-- MEAS_TIME returns rule R190's estimate from the shadows, with rule R191's constants, and changes nothing but the
response; it makes no transaction; before BEGIN it ends NOT_READY. -/
def Obligations.MeasTimeReturnsTheEstimate : Prop :=
  ∀ prec : BitVec 1, encode (.measTime prec) = 0x90000000#32 ||| prec.setWidth 32 ∧
  ∀ s : State, s.seq = .idle →
    (s.engState = .uninitialized → Sys2Proof.Machine.exec (.measTime prec) s = .next (failed s 5)) ∧
    (s.engState = .ready → Sys2Proof.Machine.exec (.measTime prec) s = .next (ended s 0 0
      (BitVec.ofNat 32
        ((if prec = 0 then 1000 else 1250)
          + (if prec = 0 then 2000 else 2300) *
            (multiplier (s.shCtrlMeas.extractLsb' 5 3) + multiplier (s.shCtrlMeas.extractLsb' 2 3) + multiplier (s.shCtrlHum.extractLsb' 0 3))
          + (if prec = 0 then 500 else 575) *
            ((if s.shCtrlMeas.extractLsb' 2 3 = 0#3 then 0 else 1) + (if s.shCtrlHum.extractLsb' 0 3 = 0#3 then 0 else 1)
              + (if s.cfg.fixedCostIncludesT = true ∧ s.shCtrlMeas.extractLsb' 5 3 ≠ 0#3 then 1 else 0))
          + (if s.cfg.timeIncludesStandby = true then standbyUs (s.shConfig.extractLsb' 5 3) else 0))) 0 0))

/-- "The result is at most 1250 + 2300·48 + 575·3 + 1000000 = 1113375" (rule R190), in particular it fits in 32 bits; and
with every code 0 and no standby term it is the base, 1000 or 1250. -/
def Obligations.MeasTimeIsBounded : Prop :=
  ∀ (cfg : Params) (ctrlMeas ctrlHum config : Byte) (prec : BitVec 1),
    measMicros cfg ctrlMeas ctrlHum config prec ≤ 1113375 ∧
    (ctrlMeas.extractLsb' 2 6 = 0#6 → ctrlHum.extractLsb' 0 3 = 0#3 → cfg.timeIncludesStandby = false →
      measMicros cfg ctrlMeas ctrlHum config prec = if prec = 0 then 1000 else 1250)

/-! ### READ_SENSORS -/

/-- Phase 1 of READ_SENSORS (rule R200): it starts with a status read, and repeats it while the device is busy and
POLL_LIMIT allows, counting the reads; `step` stays until the device is found idle (rule R41). -/
def Obligations.ReadSensorsPollsTheStatus : Prop :=
  (∀ s : State, s.seq = .idle → s.engState = .ready →
    Sys2Proof.Machine.exec .readSensors s = .next (asked s s.tsel (.read s.cfg.statusAddr .one) []
      (.busy (encode .readSensors) (if foundIdle (s.ask s.tsel (.read s.cfg.statusAddr .one)) then 1 else 0) 1))) ∧
  (∀ (s : State) (w : CmdWord) (k p : Nat) (st : BurstData), s.seq = .busy w k p → s.latch = [.ok st] →
    st.b0 &&& 0x09#8 ≠ 0#8 → (∀ n, s.cfg.pollLimit = some n → p < n) →
    Sys2Proof.Machine.exec .readSensors s = .next (asked s s.tsel (.read s.cfg.statusAddr .one) []
      (.busy w (if foundIdle (s.ask s.tsel (.read s.cfg.statusAddr .one)) then k + 1 else k) (p + 1))))

/-- "TIMEOUT is raised by READ_SENSORS when POLL_LIMIT = some n and n status reads have all been answered busy. No burst
read follows"; "with the default POLL_LIMIT = none it is never raised" (rule R266). -/
def Obligations.PollLimitGivesTimeout : Prop :=
  (∀ (s : State) (w : CmdWord) (k p n : Nat) (st : BurstData), s.seq = .busy w k p → s.latch = [.ok st] →
    st.b0 &&& 0x09#8 ≠ 0#8 → s.cfg.pollLimit = some n → n ≤ p →
    Sys2Proof.Machine.exec .readSensors s = .next (failed s 4)) ∧
  (∀ (i : Instr) (s t : State), s.cfg.pollLimit = none → Sys2Proof.Machine.exec i s = .next t → t.seq = .idle →
    t.rsp.status ≠ 4)

/-- Phase 2 of READ_SENSORS: once both busy bits are clear, one burst of eight bytes from 0xF7; a failed status read or
burst ends it BUS_FAILURE with every result register as it was (rules R200 and R261). -/
def Obligations.ReadSensorsReadsOneBurst : Prop :=
  ∀ (s : State) (w : CmdWord) (k p : Nat) (st : BurstData), s.seq = .busy w k p →
    (s.latch = [.ok st] → st.b0 &&& 0x09#8 = 0#8 →
      Sys2Proof.Machine.exec .readSensors s = .next (asked s s.tsel (.read 0xF7 .eight) [.ok st] (.busy w (k + 1) p))) ∧
    (s.latch = [.fail] ∨ s.latch = [.ok st, .fail] → Sys2Proof.Machine.exec .readSensors s = .next (failed s 3))

/-- "The status-register poll before a burst read is an unbounded busy-wait": with POLL_LIMIT = none and a device that
answers busy, "SEQ stays busy(READ_SENSORS, 0, k) with k growing, and no response is written" (rule R300), for as
many steps as the device answers so. -/
def Obligations.UnboundedPollHangs : Prop :=
  ∀ (l rest : List Answer) (s : State) (w : CmdWord) (p : Nat) (st : BurstData),
    decode w = .ok .readSensors → s.cfg.pollLimit = none → s.seq = .busy w 0 p → s.latch = [.ok st] → st.b0 &&& 0x09#8 ≠ 0#8 →
    (∀ a ∈ l, ∃ d, a = .ok d ∧ d.b0 &&& 0x09#8 ≠ 0#8) → s.script = l ++ rest →
    ∃ t, Host.Core.run Sys2Proof.core l.length s = .next t ∧ t.seq = .busy w 0 (p + l.length) ∧ t.rsp = s.rsp ∧
      t.delivered = s.delivered ∧ t.results = s.results ∧ t.script = rest

/-- The checked primitives (rule R12): each answers its exact result where that lies in [-2^(W-1), 2^(W-1)); otherwise, an
overflow event, `wrap` answers the value of width W congruent to it modulo 2^W and `fault` answers none. `asr` is
the floor of the quotient by 2^k, and `tdiv_64` truncates toward zero, -2^63 / -1 being its only overflow. -/
def Obligations.CheckedPrimitives : Prop :=
  ∀ (p : OvfPolicy) (w : Nat) (r : Int), 0 < w →
    (-(2 ^ (w - 1)) ≤ r → r < 2 ^ (w - 1) → checked p w r = some r) ∧
    (r < -(2 ^ (w - 1)) ∨ 2 ^ (w - 1) ≤ r →
      checked .fault w r = none ∧
      ∃ v, checked .wrap w r = some v ∧ -(2 ^ (w - 1)) ≤ v ∧ v < 2 ^ (w - 1) ∧ (2 ^ w : Int) ∣ r - v) ∧
    (∀ (a b : Int) (k : Nat), add p w a b = checked p w (a + b) ∧ sub p w a b = checked p w (a - b) ∧
      mul p w a b = checked p w (a * b) ∧ shl p w a k = checked p w (a * 2 ^ k) ∧
      asr a k * 2 ^ k ≤ a ∧ a < (asr a k + 1) * 2 ^ k) ∧
    (∀ a b : Int, -(2 ^ 63) ≤ a → a < 2 ^ 63 → -(2 ^ 63) ≤ b → b < 2 ^ 63 → b ≠ 0 →
      (¬ (a = -(2 ^ 63) ∧ b = -1) → tdiv64 p a b = some (a.sign * b.sign * (a.natAbs / b.natAbs : Nat))) ∧
      (a = -(2 ^ 63) → b = -1 → tdiv64 .fault a b = none ∧ tdiv64 .wrap a b = some (-(2 ^ 63))))

/-- RAW (rule R201): the three raw values from the burst, most significant byte first, the low nibbles of b[2] and b[5]
discarded. -/
def Obligations.RawValuesFromTheBurst : Prop :=
  ∀ b0 b1 b2 : Byte,
    (raw20 b0 b1 b2).toNat = b0.toNat * 4096 + b1.toNat * 16 + b2.toNat / 16 ∧
    (raw16 b0 b1).toNat = b0.toNat * 256 + b1.toNat

/-- Under `OVF_POLICY = wrap` COMP_T's tFine is the 32-bit two's-complement computation of rule R203 (rule R208). -/
def Obligations.TemperatureIsThe32BitDatapath : Prop :=
  ∀ (c : Calibration) (adcT : BitVec 20), compTFine .wrap c (zext adcT) = some (tFine32 c adcT).toInt

/-- Under `OVF_POLICY = wrap` COMP_P is the 64-bit two's-complement computation of rule R204, its guard included (rule
R208). -/
def Obligations.PressureIsThe64BitDatapath : Prop :=
  ∀ (c : Calibration) (adcP : BitVec 20) (tfine : BitVec 64),
    compP .wrap c (zext adcP) tfine.toInt = some
      ⟨(pressure32 c adcP tfine).toNat, (pressure32 c adcP tfine >>> 8).toNat, decide (pressureDen c tfine = 0)⟩

/-- Under `OVF_POLICY = wrap` COMP_H's intermediate before the clamp is the 32-bit two's-complement computation of rule
R205 (rule R208). -/
def Obligations.HumidityIsThe32BitDatapath : Prop :=
  ∀ (e : H45Extend) (c : Calibration) (adcH : BitVec 16) (tfine : BitVec 32),
    humidityOf .wrap e c (zext adcH) tfine.toInt = some (humidity32 e c adcH tfine).toInt

/-- The clamp and the final scaling (rules R205 and R206; the spec marks the range of the result as derived): "x = -1 gives 0; x = 419430400 gives 419430400", and in between
the value itself, shifted right by 12, times 100, over 1024. -/
def Obligations.HumidityClampAndScaling : Prop :=
  ∀ x : Int,
    (x ≤ 0 → humidityQ x = 0 ∧ humidityOut (humidityQ x) = 0) ∧
    (0 ≤ x → x ≤ 419430400 → humidityQ x = x / 4096 ∧ humidityOut (humidityQ x) = x / 4096 * 100 / 1024) ∧
    (419430400 ≤ x → humidityQ x = 102400 ∧ humidityOut (humidityQ x) = 10000) ∧
    0 ≤ humidityOut (humidityQ x) ∧ humidityOut (humidityQ x) ≤ 10000

/-- Under `OVF_POLICY = wrap` a READ_SENSORS whose burst was read ends OK with every result register written together from
that burst and the calibration file, by the two's-complement datapath, and the response carries T_OUT, P_OUT, H_OUT
and PGUARD (rules R200 to R208, R269): never ARITH_OVERFLOW (rule R262). The shadows are as they were, but for a
STATUS_ADDR set to a shadowed register's address, where rule R37 is the model's choice over rule R200 (DEDUCED,
assumption 10). -/
def Obligations.ReadSensorsCompletes : Prop :=
  ∀ (s : State) (w : CmdWord) (k p : Nat) (st d : BurstData), s.seq = .busy w k p → s.latch = [.ok st, .ok d] →
    s.cfg.ovfPolicy = .wrap →
    let adcP := raw20 d.b0 d.b1 d.b2
    let adcT := raw20 d.b3 d.b4 d.b5
    let adcH := raw16 d.b6 d.b7
    let tf := tFine32 s.cal adcT
    let tOut := BitVec.ofInt 32 ((tf.toInt * 5 + 128) / 256)
    let pq := pressure32 s.cal adcP (tf.signExtend 64)
    let guard := decide (pressureDen s.cal (tf.signExtend 64) = 0)
    let x := humidity32 s.cfg.h45Extend s.cal adcH tf
    let hq := BitVec.ofInt 32 (min (max x.toInt 0) 419430400 / 4096)
    let hOut := BitVec.ofNat 32 (hq.toNat * 100 / 1024)
    Sys2Proof.Machine.exec .readSensors s = .next (ended { statusMirrored s st.b0 with
      results := ⟨adcP, adcT, adcH, tf.signExtend 64, tOut, pq, pq >>> 8, hq, hOut, guard⟩
      resultsWritten := true } 0 (if guard then 1 else 0) tOut (pq >>> 8) hOut)

/-- "ARITH_OVERFLOW is raised under OVF_POLICY = fault at the first overflow event ... and no result register is written"
(rule R262): an overflow ends READ_SENSORS with status 7 and nothing else; and where `fault` meets no overflow, it
commits exactly what `wrap` computes. The shadow at a shadowed STATUS_ADDR is the model's choice (DEDUCED, assumption
10). -/
def Obligations.FaultPolicyStopsOrAgreesWithWrap : Prop :=
  ∀ (s : State) (w : CmdWord) (k p : Nat) (st d : BurstData), s.seq = .busy w k p → s.latch = [.ok st, .ok d] →
    (compensate s.cfg s.cal d = none → Sys2Proof.Machine.exec .readSensors s = .next (failed s 7)) ∧
    (∀ r, compensate s.cfg s.cal d = some r →
      compensate { s.cfg with ovfPolicy := .wrap } s.cal d = some r ∧
      Sys2Proof.Machine.exec .readSensors s = .next (ended { statusMirrored s st.b0 with results := r, resultsWritten := true }
        0 (if r.pGuard then 1 else 0) r.tOut r.pOut r.hOut))

/-- Under `OVF_POLICY = fault` COMP_T has no value exactly when one of its products or its sum leaves the 32-bit range
(rules R12, R203 and R262): the two additions and shifts before them never do. -/
def Obligations.TemperatureOverflowEvents : Prop :=
  ∀ (c : Calibration) (adcT : BitVec 20),
    let a1 : Int := (adcT.toNat : Int) / 8 - 2 * c.digT1.toNat
    let d : Int := (adcT.toNat : Int) / 16 - c.digT1.toNat
    let in32 : Int → Prop := fun r => -(2 ^ 31) ≤ r ∧ r < 2 ^ 31
    (compTFine .fault c (zext adcT) = none ↔
      ¬ (in32 (a1 * c.digT2.toInt) ∧ in32 (d * d) ∧ in32 (d * d / 4096 * c.digT3.toInt) ∧
        in32 (a1 * c.digT2.toInt / 2048 + d * d / 4096 * c.digT3.toInt / 16384)))

/-- "v1 = 0 happens whenever dig_P1 = 0" (rule R204): then READ_SENSORS, unless an overflow stops it under `fault`, completes OK
with pressure 0, PGUARD 1 and RSP_FLAGS[0] 1, temperature and humidity computed normally (rule R269). The shadow at a
shadowed STATUS_ADDR is the model's choice (DEDUCED, assumption 10). -/
def Obligations.ZeroDenominatorIsReportedNotFaulted : Prop :=
  ∀ (s : State) (w : CmdWord) (k p : Nat) (st d : BurstData) (c : Calibration) (r r' : Results),
    s.seq = .busy w k p → s.latch = [.ok st, .ok d] → s.cal.digP1 = 0#16 → compensate s.cfg s.cal d = some r →
    { c with digP1 := 0, digP2 := 0, digP3 := 0, digP4 := 0, digP5 := 0, digP6 := 0, digP7 := 0, digP8 := 0, digP9 := 0 } =
      ({ s.cal with digP1 := 0, digP2 := 0, digP3 := 0, digP4 := 0, digP5 := 0, digP6 := 0, digP7 := 0, digP8 := 0, digP9 := 0 } : Calibration) →
    compensate s.cfg c d = some r' →
    r.pGuard = true ∧ r.pQ24_8 = 0 ∧ r.pOut = 0 ∧ r.tOut = r'.tOut ∧ r.hOut = r'.hOut ∧
    Sys2Proof.Machine.exec .readSensors s =
      .next (ended { statusMirrored s st.b0 with results := r, resultsWritten := true } 0 1 r.tOut 0 r.hOut)

/-- "The pressure result does not depend on adcH. The humidity result does not depend on adcP" (rule R204), and the
temperature depends on its own three bytes alone. -/
def Obligations.ResultsDependOnTheirOwnBytes : Prop :=
  ∀ (cfg : Params) (c : Calibration) (d d' : BurstData) (r r' : Results),
    compensate cfg c d = some r → compensate cfg c d' = some r' → d.b3 = d'.b3 → d.b4 = d'.b4 → d.b5 = d'.b5 →
    r.tFine = r'.tFine ∧ r.tOut = r'.tOut ∧
    (d.b0 = d'.b0 → d.b1 = d'.b1 → d.b2 = d'.b2 → r.pQ24_8 = r'.pQ24_8 ∧ r.pOut = r'.pOut ∧ r.pGuard = r'.pGuard) ∧
    (d.b6 = d'.b6 → d.b7 = d'.b7 → r.hQ22_10 = r'.hQ22_10 ∧ r.hOut = r'.hOut)
end

