-- ==== Sys2Proof/Laws/Arith.lean ====
section
/-! SUPPORT. The laws of the checked primitives (00_scope.md rule R12). -/

namespace Sys2Proof.Machine

open Sys2Proof.Config

/-- `wrap_W` lands in the signed range of width W. -/
theorem wrap_range {w : Nat} (hw : 0 < w) (r : Int) : -(2 ^ (w - 1)) ≤ wrap w r ∧ wrap w r < 2 ^ (w - 1) := by
  have h2 : (2 : Int) ^ w = 2 * 2 ^ (w - 1) := by
    obtain ⟨n, rfl⟩ : ∃ n, w = n + 1 := ⟨w - 1, by omega⟩
    simp [pow_succ, mul_comm]
  have hp : (0 : Int) < 2 ^ (w - 1) := by positivity
  have h0 := Int.emod_nonneg (r + 2 ^ (w - 1)) (b := 2 ^ w) (by omega)
  have h1 := Int.emod_lt_of_pos (r + 2 ^ (w - 1)) (b := 2 ^ w) (by omega)
  unfold wrap
  omega

/-- `wrap_W` leaves a value of the signed range alone. -/
theorem wrap_of_inWidth {w : Nat} (hw : 0 < w) {r : Int} (h : inWidth w r = true) : wrap w r = r := by
  simp only [inWidth, decide_eq_true_eq] at h
  have hp : (0 : Int) < 2 ^ (w - 1) := by positivity
  have h2 : (2 : Int) ^ w = 2 * 2 ^ (w - 1) := by
    obtain ⟨n, rfl⟩ : ∃ n, w = n + 1 := ⟨w - 1, by omega⟩
    simp [pow_succ, mul_comm]
  unfold wrap
  rw [Int.emod_eq_of_lt (by omega) (by omega)]
  omega

/-- `wrap_W` is congruent to its argument modulo 2^W. -/
theorem wrap_congr (w : Nat) (r : Int) : (2 ^ w : Int) ∣ r - wrap w r := by
  unfold wrap
  exact ⟨(r + 2 ^ (w - 1)) / 2 ^ w, by have := Int.emod_add_mul_ediv (r + 2 ^ (w - 1)) (2 ^ w); linarith⟩

/-- Under `wrap` a primitive always answers, with the two's-complement value of its exact result. -/
theorem checked_wrap {w : Nat} (hw : 0 < w) (r : Int) : checked .wrap w r = some (wrap w r) := by
  unfold checked
  split
  · next h => rw [wrap_of_inWidth hw h]
  · rfl

/-- Under `fault` a primitive answers its exact result or nothing. -/
theorem checked_fault (w : Nat) (r : Int) : checked .fault w r = if inWidth w r then some r else none := rfl

/-- What a primitive answers lies in the signed range of its width. -/
theorem checked_range {p : OvfPolicy} {w : Nat} {r v : Int} (hw : 0 < w) (h : checked p w r = some v) :
    -(2 ^ (w - 1)) ≤ v ∧ v < 2 ^ (w - 1) := by
  cases p with
  | wrap => rw [checked_wrap hw] at h; cases h; exact wrap_range hw r
  | fault =>
    rw [checked_fault] at h
    split at h
    · next hi => cases h; simpa [inWidth] using hi
    · cases h

/-- Where `fault` answers, `wrap` answers the same. -/
theorem checked_fault_imp_wrap {w : Nat} (hw : 0 < w) {r v : Int} (h : checked .fault w r = some v) : checked .wrap w r = some v := by
  rw [checked_fault] at h
  split at h
  · next hi => rw [checked_wrap hw, wrap_of_inWidth hw hi]; exact h
  · cases h

/-- `wrap_W` is the two's-complement value of the W-bit pattern. -/
theorem wrap_eq_toInt_ofInt {w : Nat} (hw : 0 < w) (r : Int) : wrap w r = (BitVec.ofInt w r).toInt := by
  have h2 : (2 : Int) ^ w = 2 * 2 ^ (w - 1) := by
    obtain ⟨n, rfl⟩ : ∃ n, w = n + 1 := ⟨w - 1, by omega⟩
    simp [pow_succ, mul_comm]
  rw [BitVec.toInt_ofInt]
  obtain ⟨a, b⟩ := wrap_range hw r
  have hc := wrap_congr w r
  have hb : r.bmod (2 ^ w) = (wrap w r).bmod (2 ^ w) := by
    obtain ⟨k, hk⟩ := hc
    obtain ⟨v, hv⟩ : ∃ v, v = wrap w r := ⟨_, rfl⟩
    rw [← hv] at hk ⊢
    rw [show r = v + (2 ^ w : Nat) * k by push_cast; omega]
    exact Int.add_mul_bmod_self_left v _ k
  rw [hb]
  exact (Int.bmod_eq_of_le (by push_cast; omega) (by push_cast; omega)).symm

/-- One step of a computation that has a value. Rewriting with it, and not with a lemma `simp` closes by `rfl`, keeps the
kernel from comparing two `bind`s by evaluating the arithmetic inside them, which recurses as deep as its literals. -/
theorem bind_of_eq_some {α β : Type} {m : Option α} {a : α} (h : m = some a) (f : α → Option β) : (m >>= f) = f a := by
  rw [h]; rfl

/-! ### The widened constants and raw values (rules R11 and R208) -/

/-- Zero-extension into 32 bits. -/
theorem zext_eq_toInt_32 {n : Nat} (hn : n < 32) (v : BitVec n) : zext v = (v.setWidth 32).toInt := by
  have hv := v.isLt
  have h2 : 2 ^ n ≤ 2 ^ 31 := Nat.pow_le_pow_right (by decide) (by omega)
  rw [zext, BitVec.toInt_eq_toNat_of_lt] <;> simp only [BitVec.toNat_setWidth] <;> omega

/-- Zero-extension into 64 bits. -/
theorem zext_eq_toInt_64 {n : Nat} (hn : n < 64) (v : BitVec n) : zext v = (v.setWidth 64).toInt := by
  have hv := v.isLt
  have h2 : 2 ^ n ≤ 2 ^ 63 := Nat.pow_le_pow_right (by decide) (by omega)
  rw [zext, BitVec.toInt_eq_toNat_of_lt] <;> simp only [BitVec.toNat_setWidth] <;> omega

/-- Sign-extension into a wider pattern. -/
theorem sext_eq_toInt {n m : Nat} (h : n ≤ m) (v : BitVec n) : sext v = (v.signExtend m).toInt := by
  rw [sext, BitVec.toInt_signExtend_of_le h]

/-! ### Under `wrap`, each primitive on the values of two patterns is the bit-vector operation -/

variable {w : Nat} (hw : 0 < w) (a b : BitVec w) (k : Nat)

include hw in
theorem add_wrap_toInt : add .wrap w a.toInt b.toInt = some (a + b).toInt := by
  rw [add, checked_wrap hw, wrap_eq_toInt_ofInt hw, BitVec.ofInt_add, BitVec.ofInt_toInt, BitVec.ofInt_toInt]

include hw in
theorem sub_wrap_toInt : sub .wrap w a.toInt b.toInt = some (a - b).toInt := by
  rw [sub, checked_wrap hw, wrap_eq_toInt_ofInt hw]
  congr 2
  apply BitVec.eq_of_toInt_eq
  simp [BitVec.toInt_sub, BitVec.toInt_ofInt]

include hw in
theorem mul_wrap_toInt : mul .wrap w a.toInt b.toInt = some (a * b).toInt := by
  rw [mul, checked_wrap hw, wrap_eq_toInt_ofInt hw, BitVec.ofInt_mul, BitVec.ofInt_toInt, BitVec.ofInt_toInt]

include hw in
theorem shl_wrap_toInt : shl .wrap w a.toInt k = some (a <<< k).toInt := by
  rw [shl, checked_wrap hw, wrap_eq_toInt_ofInt hw]
  congr 2
  apply BitVec.eq_of_toInt_eq
  rw [BitVec.toInt_shiftLeft, BitVec.toInt_ofInt, Nat.shiftLeft_eq, BitVec.toInt_eq_toNat_bmod]
  push_cast
  rw [Int.bmod_mul_bmod]

/-- `asr` on the value of a pattern is the arithmetic shift of the pattern. -/
theorem asr_toInt : asr a.toInt k = (a.sshiftRight k).toInt := by
  rw [asr, BitVec.toInt_sshiftRight, Int.shiftRight_eq_div_pow]
  norm_cast

/-- `tdiv_64` on the values of two patterns, the divisor not 0, is the signed division of the patterns. -/
theorem tdiv64_wrap_toInt (a b : BitVec 64) : tdiv64 .wrap a.toInt b.toInt = some (a.sdiv b).toInt := by
  rw [tdiv64, checked_wrap (by decide), wrap_eq_toInt_ofInt (by decide), BitVec.toInt_ofInt, BitVec.toInt_sdiv]

end Sys2Proof.Machine
end

