-- ==== Sys2Proof/Laws/State.lean ====
section
/-! SUPPORT. What each shared update of the state does to each field: one lemma a field, true by rfl. -/

namespace Sys2Proof.Machine

open Sys2Proof.Config

variable (s : State)

/-! ### `State.onBus` -/

@[simp] theorem State.onBus_cfg (sel : Selector) (t : Transaction) (a : Answer) : (s.onBus sel t a).cfg = s.cfg := rfl
@[simp] theorem State.onBus_engState (sel : Selector) (t : Transaction) (a : Answer) : (s.onBus sel t a).engState = s.engState := rfl
@[simp] theorem State.onBus_tselValid (sel : Selector) (t : Transaction) (a : Answer) : (s.onBus sel t a).tselValid = s.tselValid := rfl
@[simp] theorem State.onBus_tsel (sel : Selector) (t : Transaction) (a : Answer) : (s.onBus sel t a).tsel = s.tsel := rfl
@[simp] theorem State.onBus_cal (sel : Selector) (t : Transaction) (a : Answer) : (s.onBus sel t a).cal = s.cal := rfl
@[simp] theorem State.onBus_calWritten (sel : Selector) (t : Transaction) (a : Answer) : (s.onBus sel t a).calWritten = s.calWritten := rfl
@[simp] theorem State.onBus_calValid (sel : Selector) (t : Transaction) (a : Answer) : (s.onBus sel t a).calValid = s.calValid := rfl
@[simp] theorem State.onBus_modeCache (sel : Selector) (t : Transaction) (a : Answer) : (s.onBus sel t a).modeCache = s.modeCache := rfl
@[simp] theorem State.onBus_shCtrlHum (sel : Selector) (t : Transaction) (a : Answer) : (s.onBus sel t a).shCtrlHum = s.shCtrlHum := rfl
@[simp] theorem State.onBus_shCtrlMeas (sel : Selector) (t : Transaction) (a : Answer) : (s.onBus sel t a).shCtrlMeas = s.shCtrlMeas := rfl
@[simp] theorem State.onBus_shConfig (sel : Selector) (t : Transaction) (a : Answer) : (s.onBus sel t a).shConfig = s.shConfig := rfl
@[simp] theorem State.onBus_results (sel : Selector) (t : Transaction) (a : Answer) : (s.onBus sel t a).results = s.results := rfl
@[simp] theorem State.onBus_resultsWritten (sel : Selector) (t : Transaction) (a : Answer) : (s.onBus sel t a).resultsWritten = s.resultsWritten := rfl
@[simp] theorem State.onBus_rsp (sel : Selector) (t : Transaction) (a : Answer) : (s.onBus sel t a).rsp = s.rsp := rfl
@[simp] theorem State.onBus_rspWritten (sel : Selector) (t : Transaction) (a : Answer) : (s.onBus sel t a).rspWritten = s.rspWritten := rfl
@[simp] theorem State.onBus_seq (sel : Selector) (t : Transaction) (a : Answer) : (s.onBus sel t a).seq = s.seq := rfl
@[simp] theorem State.onBus_latch (sel : Selector) (t : Transaction) (a : Answer) : (s.onBus sel t a).latch = s.latch := rfl
@[simp] theorem State.onBus_hostWords (sel : Selector) (t : Transaction) (a : Answer) : (s.onBus sel t a).hostWords = s.hostWords := rfl
@[simp] theorem State.onBus_delivered (sel : Selector) (t : Transaction) (a : Answer) : (s.onBus sel t a).delivered = s.delivered := rfl
@[simp] theorem State.onBus_busTrace (sel : Selector) (t : Transaction) (a : Answer) : (s.onBus sel t a).busTrace = ⟨sel, t, a⟩ :: s.busTrace := rfl
@[simp] theorem State.onBus_script (sel : Selector) (t : Transaction) (a : Answer) : (s.onBus sel t a).script = s.script.tail := rfl

/-! ### `State.transact` -/

@[simp] theorem State.transact_cfg (sel : Selector) (t : Transaction) : (s.transact sel t).cfg = s.cfg := rfl
@[simp] theorem State.transact_engState (sel : Selector) (t : Transaction) : (s.transact sel t).engState = s.engState := rfl
@[simp] theorem State.transact_tselValid (sel : Selector) (t : Transaction) : (s.transact sel t).tselValid = s.tselValid := rfl
@[simp] theorem State.transact_tsel (sel : Selector) (t : Transaction) : (s.transact sel t).tsel = s.tsel := rfl
@[simp] theorem State.transact_cal (sel : Selector) (t : Transaction) : (s.transact sel t).cal = s.cal := rfl
@[simp] theorem State.transact_calWritten (sel : Selector) (t : Transaction) : (s.transact sel t).calWritten = s.calWritten := rfl
@[simp] theorem State.transact_calValid (sel : Selector) (t : Transaction) : (s.transact sel t).calValid = s.calValid := rfl
@[simp] theorem State.transact_modeCache (sel : Selector) (t : Transaction) : (s.transact sel t).modeCache = s.modeCache := rfl
@[simp] theorem State.transact_shCtrlHum (sel : Selector) (t : Transaction) : (s.transact sel t).shCtrlHum = s.shCtrlHum := rfl
@[simp] theorem State.transact_shCtrlMeas (sel : Selector) (t : Transaction) : (s.transact sel t).shCtrlMeas = s.shCtrlMeas := rfl
@[simp] theorem State.transact_shConfig (sel : Selector) (t : Transaction) : (s.transact sel t).shConfig = s.shConfig := rfl
@[simp] theorem State.transact_results (sel : Selector) (t : Transaction) : (s.transact sel t).results = s.results := rfl
@[simp] theorem State.transact_resultsWritten (sel : Selector) (t : Transaction) : (s.transact sel t).resultsWritten = s.resultsWritten := rfl
@[simp] theorem State.transact_rsp (sel : Selector) (t : Transaction) : (s.transact sel t).rsp = s.rsp := rfl
@[simp] theorem State.transact_rspWritten (sel : Selector) (t : Transaction) : (s.transact sel t).rspWritten = s.rspWritten := rfl
@[simp] theorem State.transact_seq (sel : Selector) (t : Transaction) : (s.transact sel t).seq = s.seq.advance := rfl
@[simp] theorem State.transact_latch (sel : Selector) (t : Transaction) : (s.transact sel t).latch = s.latch ++ [s.ask sel t] := rfl
@[simp] theorem State.transact_hostWords (sel : Selector) (t : Transaction) : (s.transact sel t).hostWords = s.hostWords := rfl
@[simp] theorem State.transact_delivered (sel : Selector) (t : Transaction) : (s.transact sel t).delivered = s.delivered := rfl
@[simp] theorem State.transact_busTrace (sel : Selector) (t : Transaction) : (s.transact sel t).busTrace = ⟨sel, t, s.ask sel t⟩ :: s.busTrace := rfl
@[simp] theorem State.transact_script (sel : Selector) (t : Transaction) : (s.transact sel t).script = s.script.tail := rfl

/-! ### `State.finish` -/

@[simp] theorem State.finish_cfg (r : Response) : (s.finish r).cfg = s.cfg := rfl
@[simp] theorem State.finish_engState (r : Response) : (s.finish r).engState = s.engState := rfl
@[simp] theorem State.finish_tselValid (r : Response) : (s.finish r).tselValid = s.tselValid := rfl
@[simp] theorem State.finish_tsel (r : Response) : (s.finish r).tsel = s.tsel := rfl
@[simp] theorem State.finish_cal (r : Response) : (s.finish r).cal = s.cal := rfl
@[simp] theorem State.finish_calWritten (r : Response) : (s.finish r).calWritten = s.calWritten := rfl
@[simp] theorem State.finish_calValid (r : Response) : (s.finish r).calValid = s.calValid := rfl
@[simp] theorem State.finish_modeCache (r : Response) : (s.finish r).modeCache = s.modeCache := rfl
@[simp] theorem State.finish_shCtrlHum (r : Response) : (s.finish r).shCtrlHum = s.shCtrlHum := rfl
@[simp] theorem State.finish_shCtrlMeas (r : Response) : (s.finish r).shCtrlMeas = s.shCtrlMeas := rfl
@[simp] theorem State.finish_shConfig (r : Response) : (s.finish r).shConfig = s.shConfig := rfl
@[simp] theorem State.finish_results (r : Response) : (s.finish r).results = s.results := rfl
@[simp] theorem State.finish_resultsWritten (r : Response) : (s.finish r).resultsWritten = s.resultsWritten := rfl
@[simp] theorem State.finish_rsp (r : Response) : (s.finish r).rsp = r := rfl
@[simp] theorem State.finish_rspWritten (r : Response) : (s.finish r).rspWritten = true := rfl
@[simp] theorem State.finish_seq (r : Response) : (s.finish r).seq = .idle := rfl
@[simp] theorem State.finish_latch (r : Response) : (s.finish r).latch = [] := rfl
@[simp] theorem State.finish_hostWords (r : Response) : (s.finish r).hostWords = s.hostWords := rfl
@[simp] theorem State.finish_delivered (r : Response) : (s.finish r).delivered = r :: s.delivered := rfl
@[simp] theorem State.finish_busTrace (r : Response) : (s.finish r).busTrace = s.busTrace := rfl
@[simp] theorem State.finish_script (r : Response) : (s.finish r).script = s.script := rfl

/-! ### `State.raise` -/

@[simp] theorem State.raise_cfg (e : Status) : (s.raise e).cfg = s.cfg := rfl
@[simp] theorem State.raise_engState (e : Status) : (s.raise e).engState = s.engState := rfl
@[simp] theorem State.raise_tselValid (e : Status) : (s.raise e).tselValid = s.tselValid := rfl
@[simp] theorem State.raise_tsel (e : Status) : (s.raise e).tsel = s.tsel := rfl
@[simp] theorem State.raise_cal (e : Status) : (s.raise e).cal = s.cal := rfl
@[simp] theorem State.raise_calWritten (e : Status) : (s.raise e).calWritten = s.calWritten := rfl
@[simp] theorem State.raise_calValid (e : Status) : (s.raise e).calValid = s.calValid := rfl
@[simp] theorem State.raise_modeCache (e : Status) : (s.raise e).modeCache = s.modeCache := rfl
@[simp] theorem State.raise_shCtrlHum (e : Status) : (s.raise e).shCtrlHum = s.shCtrlHum := rfl
@[simp] theorem State.raise_shCtrlMeas (e : Status) : (s.raise e).shCtrlMeas = s.shCtrlMeas := rfl
@[simp] theorem State.raise_shConfig (e : Status) : (s.raise e).shConfig = s.shConfig := rfl
@[simp] theorem State.raise_results (e : Status) : (s.raise e).results = s.results := rfl
@[simp] theorem State.raise_resultsWritten (e : Status) : (s.raise e).resultsWritten = s.resultsWritten := rfl
@[simp] theorem State.raise_rsp (e : Status) : (s.raise e).rsp = Response.error e := rfl
@[simp] theorem State.raise_rspWritten (e : Status) : (s.raise e).rspWritten = true := rfl
@[simp] theorem State.raise_seq (e : Status) : (s.raise e).seq = .idle := rfl
@[simp] theorem State.raise_latch (e : Status) : (s.raise e).latch = [] := rfl
@[simp] theorem State.raise_hostWords (e : Status) : (s.raise e).hostWords = s.hostWords := rfl
@[simp] theorem State.raise_delivered (e : Status) : (s.raise e).delivered = Response.error e :: s.delivered := rfl
@[simp] theorem State.raise_busTrace (e : Status) : (s.raise e).busTrace = s.busTrace := rfl
@[simp] theorem State.raise_script (e : Status) : (s.raise e).script = s.script := rfl

/-! ### `State.respond` -/

@[simp] theorem State.respond_cfg (f : BitVec 4) (v0 v1 v2 : Value) : (s.respond f v0 v1 v2).cfg = s.cfg := rfl
@[simp] theorem State.respond_engState (f : BitVec 4) (v0 v1 v2 : Value) : (s.respond f v0 v1 v2).engState = s.engState := rfl
@[simp] theorem State.respond_tselValid (f : BitVec 4) (v0 v1 v2 : Value) : (s.respond f v0 v1 v2).tselValid = s.tselValid := rfl
@[simp] theorem State.respond_tsel (f : BitVec 4) (v0 v1 v2 : Value) : (s.respond f v0 v1 v2).tsel = s.tsel := rfl
@[simp] theorem State.respond_cal (f : BitVec 4) (v0 v1 v2 : Value) : (s.respond f v0 v1 v2).cal = s.cal := rfl
@[simp] theorem State.respond_calWritten (f : BitVec 4) (v0 v1 v2 : Value) : (s.respond f v0 v1 v2).calWritten = s.calWritten := rfl
@[simp] theorem State.respond_calValid (f : BitVec 4) (v0 v1 v2 : Value) : (s.respond f v0 v1 v2).calValid = s.calValid := rfl
@[simp] theorem State.respond_modeCache (f : BitVec 4) (v0 v1 v2 : Value) : (s.respond f v0 v1 v2).modeCache = s.modeCache := rfl
@[simp] theorem State.respond_shCtrlHum (f : BitVec 4) (v0 v1 v2 : Value) : (s.respond f v0 v1 v2).shCtrlHum = s.shCtrlHum := rfl
@[simp] theorem State.respond_shCtrlMeas (f : BitVec 4) (v0 v1 v2 : Value) : (s.respond f v0 v1 v2).shCtrlMeas = s.shCtrlMeas := rfl
@[simp] theorem State.respond_shConfig (f : BitVec 4) (v0 v1 v2 : Value) : (s.respond f v0 v1 v2).shConfig = s.shConfig := rfl
@[simp] theorem State.respond_results (f : BitVec 4) (v0 v1 v2 : Value) : (s.respond f v0 v1 v2).results = s.results := rfl
@[simp] theorem State.respond_resultsWritten (f : BitVec 4) (v0 v1 v2 : Value) : (s.respond f v0 v1 v2).resultsWritten = s.resultsWritten := rfl
@[simp] theorem State.respond_rsp (f : BitVec 4) (v0 v1 v2 : Value) : (s.respond f v0 v1 v2).rsp = ⟨0, f, v0, v1, v2⟩ := rfl
@[simp] theorem State.respond_rspWritten (f : BitVec 4) (v0 v1 v2 : Value) : (s.respond f v0 v1 v2).rspWritten = true := rfl
@[simp] theorem State.respond_seq (f : BitVec 4) (v0 v1 v2 : Value) : (s.respond f v0 v1 v2).seq = .idle := rfl
@[simp] theorem State.respond_latch (f : BitVec 4) (v0 v1 v2 : Value) : (s.respond f v0 v1 v2).latch = [] := rfl
@[simp] theorem State.respond_hostWords (f : BitVec 4) (v0 v1 v2 : Value) : (s.respond f v0 v1 v2).hostWords = s.hostWords := rfl
@[simp] theorem State.respond_delivered (f : BitVec 4) (v0 v1 v2 : Value) : (s.respond f v0 v1 v2).delivered = ⟨0, f, v0, v1, v2⟩ :: s.delivered := rfl
@[simp] theorem State.respond_busTrace (f : BitVec 4) (v0 v1 v2 : Value) : (s.respond f v0 v1 v2).busTrace = s.busTrace := rfl
@[simp] theorem State.respond_script (f : BitVec 4) (v0 v1 v2 : Value) : (s.respond f v0 v1 v2).script = s.script := rfl

/-! ### `State.start` -/

@[simp] theorem State.start_cfg (i : Instr) : (s.start i).cfg = s.cfg := rfl
@[simp] theorem State.start_engState (i : Instr) : (s.start i).engState = s.engState := rfl
@[simp] theorem State.start_tselValid (i : Instr) : (s.start i).tselValid = s.tselValid := rfl
@[simp] theorem State.start_tsel (i : Instr) : (s.start i).tsel = s.tsel := rfl
@[simp] theorem State.start_cal (i : Instr) : (s.start i).cal = s.cal := rfl
@[simp] theorem State.start_calWritten (i : Instr) : (s.start i).calWritten = s.calWritten := rfl
@[simp] theorem State.start_calValid (i : Instr) : (s.start i).calValid = s.calValid := rfl
@[simp] theorem State.start_modeCache (i : Instr) : (s.start i).modeCache = s.modeCache := rfl
@[simp] theorem State.start_shCtrlHum (i : Instr) : (s.start i).shCtrlHum = s.shCtrlHum := rfl
@[simp] theorem State.start_shCtrlMeas (i : Instr) : (s.start i).shCtrlMeas = s.shCtrlMeas := rfl
@[simp] theorem State.start_shConfig (i : Instr) : (s.start i).shConfig = s.shConfig := rfl
@[simp] theorem State.start_results (i : Instr) : (s.start i).results = s.results := rfl
@[simp] theorem State.start_resultsWritten (i : Instr) : (s.start i).resultsWritten = s.resultsWritten := rfl
@[simp] theorem State.start_rsp (i : Instr) : (s.start i).rsp = s.rsp := rfl
@[simp] theorem State.start_rspWritten (i : Instr) : (s.start i).rspWritten = s.rspWritten := rfl
@[simp] theorem State.start_seq (i : Instr) : (s.start i).seq = .busy (encode i) 0 0 := rfl
@[simp] theorem State.start_latch (i : Instr) : (s.start i).latch = [] := rfl
@[simp] theorem State.start_hostWords (i : Instr) : (s.start i).hostWords = s.hostWords := rfl
@[simp] theorem State.start_delivered (i : Instr) : (s.start i).delivered = s.delivered := rfl
@[simp] theorem State.start_busTrace (i : Instr) : (s.start i).busTrace = s.busTrace := rfl
@[simp] theorem State.start_script (i : Instr) : (s.start i).script = s.script := rfl

/-! ### `State.dropReady` -/

@[simp] theorem State.dropReady_cfg : (s.dropReady).cfg = s.cfg := rfl
@[simp] theorem State.dropReady_engState : (s.dropReady).engState = .uninitialized := rfl
@[simp] theorem State.dropReady_tselValid : (s.dropReady).tselValid = s.tselValid := rfl
@[simp] theorem State.dropReady_tsel : (s.dropReady).tsel = s.tsel := rfl
@[simp] theorem State.dropReady_cal : (s.dropReady).cal = s.cal := rfl
@[simp] theorem State.dropReady_calWritten : (s.dropReady).calWritten = s.calWritten := rfl
@[simp] theorem State.dropReady_calValid : (s.dropReady).calValid = false := rfl
@[simp] theorem State.dropReady_modeCache : (s.dropReady).modeCache = s.modeCache := rfl
@[simp] theorem State.dropReady_shCtrlHum : (s.dropReady).shCtrlHum = s.shCtrlHum := rfl
@[simp] theorem State.dropReady_shCtrlMeas : (s.dropReady).shCtrlMeas = s.shCtrlMeas := rfl
@[simp] theorem State.dropReady_shConfig : (s.dropReady).shConfig = s.shConfig := rfl
@[simp] theorem State.dropReady_results : (s.dropReady).results = s.results := rfl
@[simp] theorem State.dropReady_resultsWritten : (s.dropReady).resultsWritten = s.resultsWritten := rfl
@[simp] theorem State.dropReady_rsp : (s.dropReady).rsp = s.rsp := rfl
@[simp] theorem State.dropReady_rspWritten : (s.dropReady).rspWritten = s.rspWritten := rfl
@[simp] theorem State.dropReady_seq : (s.dropReady).seq = s.seq := rfl
@[simp] theorem State.dropReady_latch : (s.dropReady).latch = s.latch := rfl
@[simp] theorem State.dropReady_hostWords : (s.dropReady).hostWords = s.hostWords := rfl
@[simp] theorem State.dropReady_delivered : (s.dropReady).delivered = s.delivered := rfl
@[simp] theorem State.dropReady_busTrace : (s.dropReady).busTrace = s.busTrace := rfl
@[simp] theorem State.dropReady_script : (s.dropReady).script = s.script := rfl

/-! ### `State.commitCal` -/

@[simp] theorem State.commitCal_cfg (c : Calibration) : (s.commitCal c).cfg = s.cfg := rfl
@[simp] theorem State.commitCal_engState (c : Calibration) : (s.commitCal c).engState = .ready := rfl
@[simp] theorem State.commitCal_tselValid (c : Calibration) : (s.commitCal c).tselValid = s.tselValid := rfl
@[simp] theorem State.commitCal_tsel (c : Calibration) : (s.commitCal c).tsel = s.tsel := rfl
@[simp] theorem State.commitCal_cal (c : Calibration) : (s.commitCal c).cal = c := rfl
@[simp] theorem State.commitCal_calWritten (c : Calibration) : (s.commitCal c).calWritten = true := rfl
@[simp] theorem State.commitCal_calValid (c : Calibration) : (s.commitCal c).calValid = true := rfl
@[simp] theorem State.commitCal_modeCache (c : Calibration) : (s.commitCal c).modeCache = s.modeCache := rfl
@[simp] theorem State.commitCal_shCtrlHum (c : Calibration) : (s.commitCal c).shCtrlHum = s.shCtrlHum := rfl
@[simp] theorem State.commitCal_shCtrlMeas (c : Calibration) : (s.commitCal c).shCtrlMeas = s.shCtrlMeas := rfl
@[simp] theorem State.commitCal_shConfig (c : Calibration) : (s.commitCal c).shConfig = s.shConfig := rfl
@[simp] theorem State.commitCal_results (c : Calibration) : (s.commitCal c).results = s.results := rfl
@[simp] theorem State.commitCal_resultsWritten (c : Calibration) : (s.commitCal c).resultsWritten = s.resultsWritten := rfl
@[simp] theorem State.commitCal_rsp (c : Calibration) : (s.commitCal c).rsp = s.rsp := rfl
@[simp] theorem State.commitCal_rspWritten (c : Calibration) : (s.commitCal c).rspWritten = s.rspWritten := rfl
@[simp] theorem State.commitCal_seq (c : Calibration) : (s.commitCal c).seq = s.seq := rfl
@[simp] theorem State.commitCal_latch (c : Calibration) : (s.commitCal c).latch = s.latch := rfl
@[simp] theorem State.commitCal_hostWords (c : Calibration) : (s.commitCal c).hostWords = s.hostWords := rfl
@[simp] theorem State.commitCal_delivered (c : Calibration) : (s.commitCal c).delivered = s.delivered := rfl
@[simp] theorem State.commitCal_busTrace (c : Calibration) : (s.commitCal c).busTrace = s.busTrace := rfl
@[simp] theorem State.commitCal_script (c : Calibration) : (s.commitCal c).script = s.script := rfl

/-! ### `State.latchSel` -/

@[simp] theorem State.latchSel_cfg (sel : Selector) : (s.latchSel sel).cfg = s.cfg := rfl
@[simp] theorem State.latchSel_engState (sel : Selector) : (s.latchSel sel).engState = s.engState := rfl
@[simp] theorem State.latchSel_tselValid (sel : Selector) : (s.latchSel sel).tselValid = true := rfl
@[simp] theorem State.latchSel_tsel (sel : Selector) : (s.latchSel sel).tsel = sel := rfl
@[simp] theorem State.latchSel_cal (sel : Selector) : (s.latchSel sel).cal = s.cal := rfl
@[simp] theorem State.latchSel_calWritten (sel : Selector) : (s.latchSel sel).calWritten = s.calWritten := rfl
@[simp] theorem State.latchSel_calValid (sel : Selector) : (s.latchSel sel).calValid = s.calValid := rfl
@[simp] theorem State.latchSel_modeCache (sel : Selector) : (s.latchSel sel).modeCache = s.modeCache := rfl
@[simp] theorem State.latchSel_shCtrlHum (sel : Selector) : (s.latchSel sel).shCtrlHum = s.shCtrlHum := rfl
@[simp] theorem State.latchSel_shCtrlMeas (sel : Selector) : (s.latchSel sel).shCtrlMeas = s.shCtrlMeas := rfl
@[simp] theorem State.latchSel_shConfig (sel : Selector) : (s.latchSel sel).shConfig = s.shConfig := rfl
@[simp] theorem State.latchSel_results (sel : Selector) : (s.latchSel sel).results = s.results := rfl
@[simp] theorem State.latchSel_resultsWritten (sel : Selector) : (s.latchSel sel).resultsWritten = s.resultsWritten := rfl
@[simp] theorem State.latchSel_rsp (sel : Selector) : (s.latchSel sel).rsp = s.rsp := rfl
@[simp] theorem State.latchSel_rspWritten (sel : Selector) : (s.latchSel sel).rspWritten = s.rspWritten := rfl
@[simp] theorem State.latchSel_seq (sel : Selector) : (s.latchSel sel).seq = s.seq := rfl
@[simp] theorem State.latchSel_latch (sel : Selector) : (s.latchSel sel).latch = s.latch := rfl
@[simp] theorem State.latchSel_hostWords (sel : Selector) : (s.latchSel sel).hostWords = s.hostWords := rfl
@[simp] theorem State.latchSel_delivered (sel : Selector) : (s.latchSel sel).delivered = s.delivered := rfl
@[simp] theorem State.latchSel_busTrace (sel : Selector) : (s.latchSel sel).busTrace = s.busTrace := rfl
@[simp] theorem State.latchSel_script (sel : Selector) : (s.latchSel sel).script = s.script := rfl

/-! ### `State.clearMirror` -/

@[simp] theorem State.clearMirror_cfg : (s.clearMirror).cfg = s.cfg := rfl
@[simp] theorem State.clearMirror_engState : (s.clearMirror).engState = s.engState := rfl
@[simp] theorem State.clearMirror_tselValid : (s.clearMirror).tselValid = s.tselValid := rfl
@[simp] theorem State.clearMirror_tsel : (s.clearMirror).tsel = s.tsel := rfl
@[simp] theorem State.clearMirror_cal : (s.clearMirror).cal = s.cal := rfl
@[simp] theorem State.clearMirror_calWritten : (s.clearMirror).calWritten = s.calWritten := rfl
@[simp] theorem State.clearMirror_calValid : (s.clearMirror).calValid = s.calValid := rfl
@[simp] theorem State.clearMirror_modeCache : (s.clearMirror).modeCache = 0 := rfl
@[simp] theorem State.clearMirror_shCtrlHum : (s.clearMirror).shCtrlHum = 0 := rfl
@[simp] theorem State.clearMirror_shCtrlMeas : (s.clearMirror).shCtrlMeas = 0 := rfl
@[simp] theorem State.clearMirror_shConfig : (s.clearMirror).shConfig = 0 := rfl
@[simp] theorem State.clearMirror_results : (s.clearMirror).results = s.results := rfl
@[simp] theorem State.clearMirror_resultsWritten : (s.clearMirror).resultsWritten = s.resultsWritten := rfl
@[simp] theorem State.clearMirror_rsp : (s.clearMirror).rsp = s.rsp := rfl
@[simp] theorem State.clearMirror_rspWritten : (s.clearMirror).rspWritten = s.rspWritten := rfl
@[simp] theorem State.clearMirror_seq : (s.clearMirror).seq = s.seq := rfl
@[simp] theorem State.clearMirror_latch : (s.clearMirror).latch = s.latch := rfl
@[simp] theorem State.clearMirror_hostWords : (s.clearMirror).hostWords = s.hostWords := rfl
@[simp] theorem State.clearMirror_delivered : (s.clearMirror).delivered = s.delivered := rfl
@[simp] theorem State.clearMirror_busTrace : (s.clearMirror).busTrace = s.busTrace := rfl
@[simp] theorem State.clearMirror_script : (s.clearMirror).script = s.script := rfl

/-! ### `State.poll` -/

@[simp] theorem State.poll_cfg : (s.poll).cfg = s.cfg := rfl
@[simp] theorem State.poll_engState : (s.poll).engState = s.engState := rfl
@[simp] theorem State.poll_tselValid : (s.poll).tselValid = s.tselValid := rfl
@[simp] theorem State.poll_tsel : (s.poll).tsel = s.tsel := rfl
@[simp] theorem State.poll_cal : (s.poll).cal = s.cal := rfl
@[simp] theorem State.poll_calWritten : (s.poll).calWritten = s.calWritten := rfl
@[simp] theorem State.poll_calValid : (s.poll).calValid = s.calValid := rfl
@[simp] theorem State.poll_modeCache : (s.poll).modeCache = s.modeCache := rfl
@[simp] theorem State.poll_shCtrlHum : (s.poll).shCtrlHum = s.shCtrlHum := rfl
@[simp] theorem State.poll_shCtrlMeas : (s.poll).shCtrlMeas = s.shCtrlMeas := rfl
@[simp] theorem State.poll_shConfig : (s.poll).shConfig = s.shConfig := rfl
@[simp] theorem State.poll_results : (s.poll).results = s.results := rfl
@[simp] theorem State.poll_resultsWritten : (s.poll).resultsWritten = s.resultsWritten := rfl
@[simp] theorem State.poll_rsp : (s.poll).rsp = s.rsp := rfl
@[simp] theorem State.poll_rspWritten : (s.poll).rspWritten = s.rspWritten := rfl
@[simp] theorem State.poll_seq : (s.poll).seq = s.seq.polled (answersIdle (s.ask s.tsel (.read s.cfg.statusAddr .one))) := rfl
@[simp] theorem State.poll_latch : (s.poll).latch = [s.ask s.tsel (.read s.cfg.statusAddr .one)] := rfl
@[simp] theorem State.poll_hostWords : (s.poll).hostWords = s.hostWords := rfl
@[simp] theorem State.poll_delivered : (s.poll).delivered = s.delivered := rfl
@[simp] theorem State.poll_busTrace : (s.poll).busTrace = ⟨s.tsel, .read s.cfg.statusAddr .one, s.ask s.tsel (.read s.cfg.statusAddr .one)⟩ :: s.busTrace := rfl
@[simp] theorem State.poll_script : (s.poll).script = s.script.tail := rfl

/-! ### `State.setShadow` -/

@[simp] theorem State.setShadow_cfg (addr v : Byte) : (s.setShadow addr v).cfg = s.cfg := by
  unfold State.setShadow; split; · rfl
  split; · rfl
  split <;> rfl
@[simp] theorem State.setShadow_engState (addr v : Byte) : (s.setShadow addr v).engState = s.engState := by
  unfold State.setShadow; split; · rfl
  split; · rfl
  split <;> rfl
@[simp] theorem State.setShadow_tselValid (addr v : Byte) : (s.setShadow addr v).tselValid = s.tselValid := by
  unfold State.setShadow; split; · rfl
  split; · rfl
  split <;> rfl
@[simp] theorem State.setShadow_tsel (addr v : Byte) : (s.setShadow addr v).tsel = s.tsel := by
  unfold State.setShadow; split; · rfl
  split; · rfl
  split <;> rfl
@[simp] theorem State.setShadow_cal (addr v : Byte) : (s.setShadow addr v).cal = s.cal := by
  unfold State.setShadow; split; · rfl
  split; · rfl
  split <;> rfl
@[simp] theorem State.setShadow_calWritten (addr v : Byte) : (s.setShadow addr v).calWritten = s.calWritten := by
  unfold State.setShadow; split; · rfl
  split; · rfl
  split <;> rfl
@[simp] theorem State.setShadow_calValid (addr v : Byte) : (s.setShadow addr v).calValid = s.calValid := by
  unfold State.setShadow; split; · rfl
  split; · rfl
  split <;> rfl
@[simp] theorem State.setShadow_modeCache (addr v : Byte) : (s.setShadow addr v).modeCache = s.modeCache := by
  unfold State.setShadow; split; · rfl
  split; · rfl
  split <;> rfl
@[simp] theorem State.setShadow_results (addr v : Byte) : (s.setShadow addr v).results = s.results := by
  unfold State.setShadow; split; · rfl
  split; · rfl
  split <;> rfl
@[simp] theorem State.setShadow_resultsWritten (addr v : Byte) : (s.setShadow addr v).resultsWritten = s.resultsWritten := by
  unfold State.setShadow; split; · rfl
  split; · rfl
  split <;> rfl
@[simp] theorem State.setShadow_rsp (addr v : Byte) : (s.setShadow addr v).rsp = s.rsp := by
  unfold State.setShadow; split; · rfl
  split; · rfl
  split <;> rfl
@[simp] theorem State.setShadow_rspWritten (addr v : Byte) : (s.setShadow addr v).rspWritten = s.rspWritten := by
  unfold State.setShadow; split; · rfl
  split; · rfl
  split <;> rfl
@[simp] theorem State.setShadow_seq (addr v : Byte) : (s.setShadow addr v).seq = s.seq := by
  unfold State.setShadow; split; · rfl
  split; · rfl
  split <;> rfl
@[simp] theorem State.setShadow_latch (addr v : Byte) : (s.setShadow addr v).latch = s.latch := by
  unfold State.setShadow; split; · rfl
  split; · rfl
  split <;> rfl
@[simp] theorem State.setShadow_hostWords (addr v : Byte) : (s.setShadow addr v).hostWords = s.hostWords := by
  unfold State.setShadow; split; · rfl
  split; · rfl
  split <;> rfl
@[simp] theorem State.setShadow_delivered (addr v : Byte) : (s.setShadow addr v).delivered = s.delivered := by
  unfold State.setShadow; split; · rfl
  split; · rfl
  split <;> rfl
@[simp] theorem State.setShadow_busTrace (addr v : Byte) : (s.setShadow addr v).busTrace = s.busTrace := by
  unfold State.setShadow; split; · rfl
  split; · rfl
  split <;> rfl
@[simp] theorem State.setShadow_script (addr v : Byte) : (s.setShadow addr v).script = s.script := by
  unfold State.setShadow; split; · rfl
  split; · rfl
  split <;> rfl

@[simp] theorem State.setShadow_ctrlHum (v : Byte) : s.setShadow addrCtrlHum v = { s with shCtrlHum := v } := rfl
@[simp] theorem State.setShadow_ctrlMeas (v : Byte) : s.setShadow addrCtrlMeas v = { s with shCtrlMeas := v } := rfl
@[simp] theorem State.setShadow_config (v : Byte) : s.setShadow addrConfig v = { s with shConfig := v } := rfl

/-- Each shadow takes the byte of its own register's address and of no other. -/
@[simp] theorem State.setShadow_shCtrlHum (addr v : Byte) :
    (s.setShadow addr v).shCtrlHum = if addr = addrCtrlHum then v else s.shCtrlHum := by
  unfold State.setShadow; split_ifs <;> rfl
@[simp] theorem State.setShadow_shCtrlMeas (addr v : Byte) :
    (s.setShadow addr v).shCtrlMeas = if addr = addrCtrlMeas then v else s.shCtrlMeas := by
  unfold State.setShadow; split_ifs <;> simp_all [addrCtrlHum, addrCtrlMeas, addrConfig]
@[simp] theorem State.setShadow_shConfig (addr v : Byte) :
    (s.setShadow addr v).shConfig = if addr = addrConfig then v else s.shConfig := by
  unfold State.setShadow; split_ifs <;> simp_all [addrCtrlHum, addrCtrlMeas, addrConfig]

/-- An address that has no shadow, such as the default STATUS_ADDR, writes none (rules R37 and R200). -/
theorem State.setShadow_of_no_shadow {addr : Byte} (h1 : addr ≠ addrCtrlHum) (h2 : addr ≠ addrCtrlMeas) (h3 : addr ≠ addrConfig)
    (v : Byte) : s.setShadow addr v = s := by
  unfold State.setShadow; rw [if_neg h1, if_neg h2, if_neg h3]

/-! ### `State.commitResults` -/

@[simp] theorem State.commitResults_cfg (st : Byte) (r : Results) : (s.commitResults st r).cfg = s.cfg := by simp [State.commitResults]
@[simp] theorem State.commitResults_engState (st : Byte) (r : Results) : (s.commitResults st r).engState = s.engState := by simp [State.commitResults]
@[simp] theorem State.commitResults_tselValid (st : Byte) (r : Results) : (s.commitResults st r).tselValid = s.tselValid := by simp [State.commitResults]
@[simp] theorem State.commitResults_tsel (st : Byte) (r : Results) : (s.commitResults st r).tsel = s.tsel := by simp [State.commitResults]
@[simp] theorem State.commitResults_cal (st : Byte) (r : Results) : (s.commitResults st r).cal = s.cal := by simp [State.commitResults]
@[simp] theorem State.commitResults_calWritten (st : Byte) (r : Results) : (s.commitResults st r).calWritten = s.calWritten := by simp [State.commitResults]
@[simp] theorem State.commitResults_calValid (st : Byte) (r : Results) : (s.commitResults st r).calValid = s.calValid := by simp [State.commitResults]
@[simp] theorem State.commitResults_modeCache (st : Byte) (r : Results) : (s.commitResults st r).modeCache = s.modeCache := by simp [State.commitResults]
@[simp] theorem State.commitResults_shCtrlHum (st : Byte) (r : Results) :
    (s.commitResults st r).shCtrlHum = (s.setShadow s.cfg.statusAddr st).shCtrlHum := by simp [State.commitResults]
@[simp] theorem State.commitResults_shCtrlMeas (st : Byte) (r : Results) :
    (s.commitResults st r).shCtrlMeas = (s.setShadow s.cfg.statusAddr st).shCtrlMeas := by simp [State.commitResults]
@[simp] theorem State.commitResults_shConfig (st : Byte) (r : Results) :
    (s.commitResults st r).shConfig = (s.setShadow s.cfg.statusAddr st).shConfig := by simp [State.commitResults]
@[simp] theorem State.commitResults_results (st : Byte) (r : Results) :
    (s.commitResults st r).results = r := by
  simp [State.commitResults]
@[simp] theorem State.commitResults_resultsWritten (st : Byte) (r : Results) :
    (s.commitResults st r).resultsWritten = true := by
  simp [State.commitResults]
@[simp] theorem State.commitResults_rsp (st : Byte) (r : Results) :
    (s.commitResults st r).rsp = ⟨0, flagsOf r.pGuard, r.tOut, r.pOut, r.hOut⟩ := by
  simp [State.commitResults]
@[simp] theorem State.commitResults_rspWritten (st : Byte) (r : Results) :
    (s.commitResults st r).rspWritten = true := by
  simp [State.commitResults]
@[simp] theorem State.commitResults_seq (st : Byte) (r : Results) :
    (s.commitResults st r).seq = .idle := by
  simp [State.commitResults]
@[simp] theorem State.commitResults_latch (st : Byte) (r : Results) :
    (s.commitResults st r).latch = [] := by
  simp [State.commitResults]
@[simp] theorem State.commitResults_hostWords (st : Byte) (r : Results) :
    (s.commitResults st r).hostWords = s.hostWords := by
  simp [State.commitResults]
@[simp] theorem State.commitResults_delivered (st : Byte) (r : Results) :
    (s.commitResults st r).delivered = ⟨0, flagsOf r.pGuard, r.tOut, r.pOut, r.hOut⟩ :: s.delivered := by
  simp [State.commitResults]
@[simp] theorem State.commitResults_busTrace (st : Byte) (r : Results) :
    (s.commitResults st r).busTrace = s.busTrace := by
  simp [State.commitResults]
@[simp] theorem State.commitResults_script (st : Byte) (r : Results) :
    (s.commitResults st r).script = s.script := by
  simp [State.commitResults]

/-! ### The device's answer and the sequencer -/

@[simp] theorem State.start_ask (i : Instr) (sel : Selector) (t : Transaction) : (s.start i).ask sel t = s.ask sel t := rfl
@[simp] theorem State.dropReady_ask (sel : Selector) (t : Transaction) : s.dropReady.ask sel t = s.ask sel t := rfl

/-- Where the state fixes the next answer, the device gives it. -/
theorem State.ask_of_script {a : Answer} {l : List Answer} (h : s.script = a :: l) (sel : Selector) (t : Transaction) :
    s.ask sel t = a := by simp [State.ask, h]

@[simp] theorem Seq.advance_busy (w : CmdWord) (k p : Nat) : (Seq.busy w k p).advance = .busy w (k + 1) p := rfl
@[simp] theorem Seq.polled_busy (b : Bool) (w : CmdWord) (k p : Nat) :
    (Seq.busy w k p).polled b = .busy w (if b then k + 1 else k) (p + 1) := rfl
@[simp] theorem Seq.polls_busy (w : CmdWord) (k p : Nat) : (Seq.busy w k p).polls = p := rfl

end Sys2Proof.Machine
end

