-- ==== Sys2Proof/Laws/Ops.lean ====
section
/-! SUPPORT. One lemma for each shared operation and each meaning, saying everything it can do: later proofs cite these
and unfold nothing. -/

namespace Sys2Proof.Machine

open Sys2Proof.Config

variable {s t : State}

/-! ### The shared operations -/

/-- A command's step is a transaction, an error, or its completion. -/
theorem proceed_cases {α : Type} {sel : Selector} {p : Progress α} {commit : α → State → State}
    (h : s.proceed sel p commit = .next t) :
    (∃ tx, p = .issue tx ∧ t = s.transact sel tx) ∨ (∃ e, p = .stop e ∧ t = s.raise e) ∨
      (∃ a, p = .done a ∧ t = commit a s) := by
  cases p with
  | issue tx => cases h; exact .inl ⟨tx, rfl, rfl⟩
  | stop e => cases h; exact .inr (.inl ⟨e, rfl, rfl⟩)
  | done a => cases h; exact .inr (.inr ⟨a, rfl, rfl⟩)

/-- Dispatch starts a command on a Ready engine, refuses it on an uninitialized one, and lets an executing one go on. -/
theorem dispatched_cases {i : Instr} {body : State → Result} (h : dispatched i s body = .next t) :
    (s.seq = .idle ∧ s.engState = .ready ∧ body (s.start i) = .next t) ∨
    (s.seq = .idle ∧ s.engState = .uninitialized ∧ t = s.raise .notReady) ∨
    (s.seq ≠ .idle ∧ body s = .next t) := by
  unfold dispatched at h
  split at h
  · next hs =>
    cases he : s.engState with
    | ready => rw [he, if_pos rfl] at h; exact .inl ⟨hs, rfl, h⟩
    | uninitialized => rw [he, if_neg (by decide)] at h; cases h; exact .inr (.inl ⟨hs, rfl, rfl⟩)
  · next hs => exact .inr (.inr ⟨by simp [hs], h⟩)

/-- A register read issues its read, fails, or is done with the byte read. -/
theorem readRegister_cases (addr : Byte) (l : List Answer) :
    (l = [] ∧ readRegister addr l = .issue (.read addr .one)) ∨
    ((∃ r, l = .fail :: r) ∧ readRegister addr l = .stop .busFailure) ∨
    (∃ d r, l = .ok d :: r ∧ readRegister addr l = .done d.b0) := by
  rcases l with _ | ⟨_ | d, r⟩ <;> simp [readRegister, burstByte]

/-- A read-modify-write issues its read, issues its write, fails at either, or is done with the byte written. -/
theorem modifyRegister_cases (addr : Byte) (m : Byte → Byte) (l : List Answer) :
    (l = [] ∧ modifyRegister addr m l = .issue (.read addr .one)) ∨
    (∃ d, l = [.ok d] ∧ modifyRegister addr m l = .issue (.write addr (m d.b0))) ∨
    (((∃ r, l = .fail :: r) ∨ ∃ d r, l = .ok d :: .fail :: r) ∧ modifyRegister addr m l = .stop .busFailure) ∨
    (∃ d e r, l = .ok d :: .ok e :: r ∧ modifyRegister addr m l = .done (m d.b0)) := by
  rcases l with _ | ⟨_ | d, _ | ⟨_ | e, r⟩⟩ <;> simp [modifyRegister, burstByte]

/-- LOAD_CAL stops at a failed read, issues the next read, or is done once all twenty are answered. -/
theorem loadCal_cases (cals : List Answer) :
    (.fail ∈ cals ∧ loadCal cals = .stop .busFailure) ∨
    (.fail ∉ cals ∧ ∃ tx, calReads[cals.length]? = some tx ∧ loadCal cals = .issue tx) ∨
    (.fail ∉ cals ∧ calReads.length ≤ cals.length ∧ loadCal cals = .done (calibrationOf cals)) := by
  have hany : cals.any isFail = true ↔ Answer.fail ∈ cals := by
    simp only [List.any_eq_true]
    constructor
    · rintro ⟨a, ha, h⟩; cases a <;> simp_all [isFail]
    · intro h; exact ⟨_, h, rfl⟩
  by_cases hf : Answer.fail ∈ cals
  · simp [loadCal, hany.2 hf, hf]
  · have : cals.any isFail = false := by simpa using mt hany.1 hf
    rcases hd : calReads.drop cals.length with _ | ⟨tx, r⟩
    · right; right
      exact ⟨hf, List.drop_eq_nil_iff.1 hd, by simp [loadCal, this, hd]⟩
    · right; left
      refine ⟨hf, tx, ?_, by simp [loadCal, this, hd]⟩
      have := congrArg (fun l => l[0]?) hd
      simpa using this

/-- The body of BEGIN reads the chip-id, refuses a device, or goes on with LOAD_CAL. -/
theorem identify_cases (chipId : Byte) (l : List Answer) :
    (l = [] ∧ identify chipId l = .issue (.read addrChipId .one)) ∨
    (((∃ r, l = .fail :: r) ∨ ∃ d r, l = .ok d :: r ∧ d.b0 ≠ chipId) ∧ identify chipId l = .stop .deviceNotFound) ∨
    (∃ d cals, l = .ok d :: cals ∧ d.b0 = chipId ∧ identify chipId l = loadCal cals) := by
  rcases l with _ | ⟨_ | d, r⟩
  · simp [identify]
  · simp [identify]
  · by_cases h : d.b0 = chipId <;> simp [identify, burstByte, h]

/-- The body of BEGIN, by the number of answers received: it issues the chip-id read or the next calibration read, stops
with DEVICE_NOT_FOUND or BUS_FAILURE, or is done after 21 answers. -/
theorem identify_outcome (chipId : Byte) (l : List Answer) :
    (∃ tx, (Transaction.read addrChipId .one :: calReads)[l.length]? = some tx ∧ identify chipId l = .issue tx) ∨
    identify chipId l = .stop .deviceNotFound ∨ identify chipId l = .stop .busFailure ∨
    (21 ≤ l.length ∧ ∃ c, identify chipId l = .done c) := by
  rcases identify_cases chipId l with ⟨rfl, hi⟩ | ⟨_, hi⟩ | ⟨d, cals, rfl, _, hi⟩
  · exact .inl ⟨_, rfl, hi⟩
  · exact .inr (.inl hi)
  · rcases loadCal_cases cals with ⟨_, hc⟩ | ⟨_, tx, ht, hc⟩ | ⟨_, hn, hc⟩
    · exact .inr (.inr (.inl (hi.trans hc)))
    · exact .inl ⟨tx, by simpa using ht, hi.trans hc⟩
    · refine .inr (.inr (.inr ⟨?_, _, hi.trans hc⟩))
      have : calReads.length = 20 := rfl
      simp only [List.length_cons]
      omega

/-! ### The step -/

/-- A step goes on with a command, starts one, refuses an ill-formed word, or waits. -/
theorem step_cases (h : step s = .next t) :
    (∃ w k p i, s.seq = .busy w k p ∧ decode w = .ok i ∧ exec i s = .next t) ∨
    (∃ w k p e, s.seq = .busy w k p ∧ decode w = .error e ∧ t = s.raise .illegalCommand) ∨
    (∃ w ws i, s.seq = .idle ∧ s.hostWords = w :: ws ∧ decode w = .ok i ∧ exec i { s with hostWords := ws } = .next t) ∨
    (∃ w ws e, s.seq = .idle ∧ s.hostWords = w :: ws ∧ decode w = .error e ∧
      t = State.raise { s with hostWords := ws } .illegalCommand) ∨
    (s.seq = .idle ∧ s.hostWords = [] ∧ t = s) := by
  unfold step at h
  split at h
  · next w k p hs =>
    unfold runWord at h
    split at h
    · next i hd => exact .inl ⟨w, k, p, i, hs, hd, h⟩
    · next e hd => cases h; exact .inr (.inl ⟨w, k, p, e, hs, hd, rfl⟩)
  · next hs =>
    rcases hw : s.hostWords with _ | ⟨w, ws⟩
    · have ht : s.take = none := by unfold State.take; split <;> simp_all
      rw [ht] at h
      cases h
      exact .inr (.inr (.inr (.inr ⟨hs, rfl, rfl⟩)))
    · have ht : s.take = some (w, { s with hostWords := ws }) := by unfold State.take; split <;> simp_all
      rw [ht] at h
      simp only [runWord] at h
      split at h
      · next i hd => exact .inr (.inr (.inl ⟨w, ws, i, hs, rfl, hd, h⟩))
      · next e hd => cases h; exact .inr (.inr (.inr (.inl ⟨w, ws, e, hs, rfl, hd, rfl⟩)))

/-! ### The meanings -/

/-- What a getter's body can do. -/
theorem readBack_cases {addr : Byte} {value : Byte → Value} (h : readBack s addr value = .next t) :
    (s.latch = [] ∧ t = s.transact s.tsel (.read addr .one)) ∨
    ((∃ r, s.latch = .fail :: r) ∧ t = s.raise .busFailure) ∨
    (∃ d r, s.latch = .ok d :: r ∧ t = (s.setShadow addr d.b0).respond noFlags (value d.b0) 0 0) := by
  rcases readRegister_cases addr s.latch with ⟨hl, hp⟩ | ⟨hl, hp⟩ | ⟨d, r, hl, hp⟩ <;>
    rw [readBack, hp, State.proceed] at h <;> cases h
  · exact .inl ⟨hl, rfl⟩
  · exact .inr (.inl ⟨hl, rfl⟩)
  · exact .inr (.inr ⟨d, r, hl, rfl⟩)

/-- What the body of SET_OSR, SET_IIR or SET_STANDBY can do. -/
theorem writeField_cases {addr : Byte} {m : Byte → Byte} (h : writeField s addr m = .next t) :
    (s.latch = [] ∧ t = s.transact s.tsel (.read addr .one)) ∨
    (∃ d, s.latch = [.ok d] ∧ t = s.transact s.tsel (.write addr (m d.b0))) ∨
    (((∃ r, s.latch = .fail :: r) ∨ ∃ d r, s.latch = .ok d :: .fail :: r) ∧ t = s.raise .busFailure) ∨
    (∃ d e r, s.latch = .ok d :: .ok e :: r ∧ t = (s.setShadow addr (m d.b0)).respond noFlags 0 0 0) := by
  rcases modifyRegister_cases addr m s.latch with ⟨hl, hp⟩ | ⟨d, hl, hp⟩ | ⟨hl, hp⟩ | ⟨d, e, r, hl, hp⟩ <;>
    rw [writeField, hp, State.proceed] at h <;> cases h
  · exact .inl ⟨hl, rfl⟩
  · exact .inr (.inl ⟨d, hl, rfl⟩)
  · exact .inr (.inr (.inl ⟨hl, rfl⟩))
  · exact .inr (.inr (.inr ⟨d, e, r, hl, rfl⟩))

/-- What the body of READ_SENSORS can do. -/
theorem sensorsBody_cases (h : sensorsBody s = .next t) :
    (s.latch = [] ∧ t = s.poll) ∨
    ((∃ r, s.latch = .fail :: r) ∧ t = s.raise .busFailure) ∨
    (∃ st, s.latch = [.ok st] ∧ statusBusy st.b0 = true ∧ pollLimitReached s.cfg.pollLimit s.seq.polls = true ∧
      t = s.raise .timeout) ∨
    (∃ st, s.latch = [.ok st] ∧ statusBusy st.b0 = true ∧ pollLimitReached s.cfg.pollLimit s.seq.polls = false ∧
      t = s.poll) ∨
    (∃ st, s.latch = [.ok st] ∧ statusBusy st.b0 = false ∧ t = s.transact s.tsel (.read addrData .eight)) ∨
    (∃ st r, s.latch = .ok st :: .fail :: r ∧ t = s.raise .busFailure) ∨
    (∃ st d r, s.latch = .ok st :: .ok d :: r ∧ compensate s.cfg s.cal d = none ∧ t = s.raise .arithOverflow) ∨
    (∃ st d r res, s.latch = .ok st :: .ok d :: r ∧ compensate s.cfg s.cal d = some res ∧
      t = s.commitResults st.b0 res) := by
  unfold sensorsBody at h
  split at h
  · next hl => exact .inl ⟨hl, (Host.Outcome.next.inj h).symm⟩
  · next r hl => exact .inr (.inl ⟨⟨r, hl⟩, (Host.Outcome.next.inj h).symm⟩)
  · next st hl =>
    split at h
    · next hb =>
      split at h
      · next hp => exact .inr (.inr (.inl ⟨st, hl, hb, hp, (Host.Outcome.next.inj h).symm⟩))
      · next hp =>
        exact .inr (.inr (.inr (.inl ⟨st, hl, hb, Bool.eq_false_iff.2 hp, (Host.Outcome.next.inj h).symm⟩)))
    · next hb =>
      exact .inr (.inr (.inr (.inr (.inl ⟨st, hl, Bool.eq_false_iff.2 hb, (Host.Outcome.next.inj h).symm⟩))))
  · next st r hl => exact .inr (.inr (.inr (.inr (.inr (.inl ⟨st, r, hl, (Host.Outcome.next.inj h).symm⟩)))))
  · next st d r hl =>
    rcases hc : compensate s.cfg s.cal d with _ | res <;> rw [hc] at h
    · exact .inr (.inr (.inr (.inr (.inr (.inr (.inl ⟨st, d, r, hl, hc, (Host.Outcome.next.inj h).symm⟩))))))
    · exact .inr (.inr (.inr (.inr (.inr (.inr (.inr ⟨st, d, r, res, hl, hc, (Host.Outcome.next.inj h).symm⟩))))))

/-- What the body of BEGIN can do. -/
theorem beginBody_cases {sel : Selector} (h : beginBody sel s = .next t) :
    (∃ tx, (Transaction.read addrChipId .one :: calReads)[s.latch.length]? = some tx ∧ t = s.transact sel tx) ∨
    t = s.raise .deviceNotFound ∨ t = s.raise .busFailure ∨
    (21 ≤ s.latch.length ∧ ∃ c, t = ((s.commitCal c).latchSel sel).respond noFlags 0 0 0) := by
  rcases identify_outcome s.cfg.chipId s.latch with ⟨tx, ht, hi⟩ | hi | hi | ⟨hn, c, hi⟩ <;>
    rw [beginBody, hi] at h <;> cases h
  · exact .inl ⟨tx, ht, rfl⟩
  · exact .inr (.inl rfl)
  · exact .inr (.inr (.inl rfl))
  · exact .inr (.inr (.inr ⟨hn, c, rfl⟩))

/-- What a step of BEGIN can do: refuse its selector, start with the chip-id read, or go on with its body. -/
theorem execBegin_cases {kind : BitVec 2} {payload : BitVec 24} (h : execBegin kind payload s = .next t) :
    (s.seq = .idle ∧ s.tselValid = true ∧ (⟨kind, payload⟩ : Selector) ≠ s.tsel ∧ t = s.raise .invalidParameter) ∨
    (s.seq = .idle ∧ (s.tselValid = true → (⟨kind, payload⟩ : Selector) = s.tsel) ∧
      t = (s.start (.begin kind payload)).dropReady.transact ⟨kind, payload⟩ (.read addrChipId .one)) ∨
    (s.seq ≠ .idle ∧ beginBody ⟨kind, payload⟩ s = .next t) := by
  unfold execBegin at h
  split at h
  · next hs =>
    split at h
    · next hc => exact .inl ⟨hs, hc.1, hc.2, (Host.Outcome.next.inj h).symm⟩
    · next hc =>
      refine .inr (.inl ⟨hs, fun hv => ?_, (Host.Outcome.next.inj h).symm⟩)
      exact Classical.not_not.1 fun hn => hc ⟨hv, hn⟩
  · next hs => exact .inr (.inr ⟨by simp [hs], h⟩)

/-- What the reset write does: one transaction, with ENG_STATE and CAL_VALID cleared, and the mirror too where it
succeeded. -/
theorem resetWrite_cases (s : State) :
    (s.ask s.tsel (.write addrSoftReset s.cfg.resetCode) = .fail ∧
      resetWrite s = s.dropReady.transact s.tsel (.write addrSoftReset s.cfg.resetCode)) ∨
    (∃ d, s.ask s.tsel (.write addrSoftReset s.cfg.resetCode) = .ok d ∧
      resetWrite s = (s.dropReady.transact s.tsel (.write addrSoftReset s.cfg.resetCode)).clearMirror) := by
  unfold resetWrite
  rcases ha : s.ask s.tsel (.write addrSoftReset s.cfg.resetCode) with _ | d
  · exact .inl ⟨rfl, by simp [ha]⟩
  · exact .inr ⟨d, rfl, by simp [ha]⟩

/-- What a step of RESET can do. -/
theorem execReset_cases (h : execReset s = .next t) :
    (s.seq = .idle ∧ s.engState = .ready ∧ t = resetWrite (s.start .reset)) ∨
    (s.seq = .idle ∧ s.engState = .uninitialized ∧ t = s.raise .notReady) ∨
    (s.seq ≠ .idle ∧
      ((s.latch = [] ∧ t = resetWrite s) ∨
       (∃ tx, (Transaction.read addrChipId .one :: calReads)[s.latch.length - 1]? = some tx ∧ 1 ≤ s.latch.length ∧
          t = s.transact s.tsel tx) ∨
       t = s.raise .deviceNotFound ∨ t = s.raise .busFailure ∨
       (22 ≤ s.latch.length ∧ ∃ c, t = (s.commitCal c).respond noFlags 0 0 0))) := by
  rcases dispatched_cases h with ⟨h1, h2, h3⟩ | ⟨h1, h2, h3⟩ | ⟨h1, h3⟩
  · exact .inl ⟨h1, h2, (Host.Outcome.next.inj h3).symm⟩
  · exact .inr (.inl ⟨h1, h2, h3⟩)
  · refine .inr (.inr ⟨h1, ?_⟩)
    split at h3
    · next hl => exact .inl ⟨hl, (Host.Outcome.next.inj h3).symm⟩
    · exact .inr (.inr (.inr (.inl (Host.Outcome.next.inj h3).symm)))
    · next d rest hl =>
      rcases identify_outcome s.cfg.chipId rest with ⟨tx, ht, hi⟩ | hi | hi | ⟨hn, c, hi⟩ <;>
        rw [hi] at h3 <;> cases h3 <;> rw [hl]
      · exact .inr (.inl ⟨tx, by simpa using ht, by simp, rfl⟩)
      · exact .inr (.inr (.inl rfl))
      · exact .inr (.inr (.inr (.inl rfl)))
      · exact .inr (.inr (.inr (.inr ⟨by simp; omega, c, rfl⟩)))

/-- What the body of SET_MODE can do. -/
theorem execSetMode_cases {mode : BitVec 2} (h : execSetMode mode s = .next t) :
    (s.seq = .idle ∧ s.engState = .ready ∧
      t = (s.start (.setMode mode)).transact s.tsel (.read addrCtrlMeas .one)) ∨
    (s.seq = .idle ∧ s.engState = .uninitialized ∧ t = s.raise .notReady) ∨
    (s.seq ≠ .idle ∧
      ((s.latch = [] ∧ t = s.transact s.tsel (.read addrCtrlMeas .one)) ∨
       (∃ d, s.latch = [.ok d] ∧ t = s.transact s.tsel (.write addrCtrlMeas (withMode mode d.b0))) ∨
       (((∃ r, s.latch = .fail :: r) ∨ ∃ d r, s.latch = .ok d :: .fail :: r) ∧ t = s.raise .busFailure) ∨
       (∃ d e r, s.latch = .ok d :: .ok e :: r ∧
          t = ({ s with modeCache := mode, shCtrlMeas := withMode mode d.b0 }).respond noFlags 0 0 0))) := by
  rcases dispatched_cases h with ⟨h1, h2, h3⟩ | ⟨h1, h2, h3⟩ | ⟨h1, h3⟩
  · exact .inl ⟨h1, h2, (Host.Outcome.next.inj h3).symm⟩
  · exact .inr (.inl ⟨h1, h2, h3⟩)
  · refine .inr (.inr ⟨h1, ?_⟩)
    rcases modifyRegister_cases addrCtrlMeas (withMode mode) s.latch with
      ⟨hl, hp⟩ | ⟨d, hl, hp⟩ | ⟨hl, hp⟩ | ⟨d, e, r, hl, hp⟩ <;> rw [hp, State.proceed] at h3 <;> cases h3
    · exact .inl ⟨hl, rfl⟩
    · exact .inr (.inl ⟨d, hl, rfl⟩)
    · exact .inr (.inr (.inl ⟨hl, rfl⟩))
    · exact .inr (.inr (.inr ⟨d, e, r, hl, rfl⟩))

end Sys2Proof.Machine
end

