-- ==== Sys2Proof/Laws/Exec.lean ====
section
/-! SUPPORT. What a step of any command can do, said once: later proofs about every command go by these cases. -/

namespace Sys2Proof.Machine

open Sys2Proof.Config Sys2Proof.Safety

/-- The state a command's body runs on: the state it is executing in, or the one it has just started in. -/
def RunsOn (i : Instr) (s u : State) : Prop := (u = s ∧ s.seq ≠ .idle) ∨ u = s.start i

/-- Everything a step of a command can do. -/
inductive ExecOutcome (i : Instr) (s t : State) : Prop
  /-- It ends with an error. -/
  | error (e : Status) (he : e ≠ .ok) (h : t = s.raise e ∨ t = (s.start i).raise e)
  /-- A command other than BEGIN makes a transaction of its row of rule R79's table. -/
  | transaction (u : State) (hu : RunsOn i s u) (tx : Transaction) (h : t = u.transact (selectorOf i s) tx)
      (hm : mayIssue s.cfg i tx = true) (hb : ∀ k p, i ≠ .begin k p)
  /-- BEGIN makes a transaction, its first one after clearing ENG_STATE and CAL_VALID. -/
  | beginTransaction (k : BitVec 2) (p : BitVec 24) (hi : i = .begin k p) (u : State) (hu : RunsOn i s u) (tx : Transaction)
      (h : t = u.dropReady.transact (selectorOf i s) tx ∨ t = u.transact (selectorOf i s) tx)
      (hm : mayIssue s.cfg i tx = true)
  /-- RESET makes its reset write. -/
  | resetWritten (hi : i = .reset) (u : State) (hu : RunsOn i s u) (h : t = resetWrite u)
  /-- READ_SENSORS makes a status read. -/
  | polled (hi : i = .readSensors) (u : State) (hu : RunsOn i s u) (h : t = u.poll)
  /-- A getter or a setter ends OK and updates a shadow. -/
  | shadowed (addr v : Byte) (v0 : Value) (h : t = (s.setShadow addr v).respond noFlags v0 0 0)
      (hb : ∀ k p, i ≠ .begin k p) (hr : i ≠ .reset)
  /-- GET_MODE or MEAS_TIME ends OK. -/
  | answered (u : State) (hu : RunsOn i s u) (v0 : Value) (h : t = u.respond noFlags v0 0 0)
      (hb : ∀ k p, i ≠ .begin k p) (hr : i ≠ .reset)
  /-- SET_MODE ends OK. -/
  | modeWritten (m : BitVec 2) (v : Byte) (hi : i = .setMode m)
      (h : t = ({ s with modeCache := m, shCtrlMeas := v }).respond noFlags 0 0 0)
  /-- BEGIN ends OK. -/
  | begun (k : BitVec 2) (p : BitVec 24) (hi : i = .begin k p) (c : Calibration)
      (h : t = ((s.commitCal c).latchSel ⟨k, p⟩).respond noFlags 0 0 0)
  /-- RESET ends OK. -/
  | restarted (hi : i = .reset) (c : Calibration) (h : t = (s.commitCal c).respond noFlags 0 0 0)
  /-- READ_SENSORS ends OK with the results of its burst, and its last status byte where that has a shadow. -/
  | measured (hi : i = .readSensors) (u : State) (hu : RunsOn i s u) (st d : BurstData) (r : Results)
      (hc : compensate s.cfg s.cal d = some r) (h : t = u.commitResults st.b0 r)

/-- A read of BEGIN is one of rule R79's row for it. -/
theorem mem_beginReads {n : Nat} {tx : Transaction}
    (h : (Transaction.read addrChipId .one :: calReads : List Transaction)[n]? = some tx) : tx ∈ beginReads :=
  List.mem_of_getElem? h

/-- A getter's step. -/
theorem readBack_outcome {i : Instr} {s t : State} (hb : ∀ k p, i ≠ .begin k p) (hr : i ≠ .reset) (addr : Byte)
    (val : Byte → Value) (hm : mayIssue s.cfg i (.read addr .one) = true) (hs : selectorOf i s = s.tsel)
    (h : dispatched i s (fun s => readBack s addr val) = .next t) : ExecOutcome i s t := by
  rcases dispatched_cases h with ⟨h1, _, h3⟩ | ⟨_, _, h3⟩ | ⟨h1, h3⟩
  · rcases readBack_cases h3 with ⟨_, ht⟩ | ⟨⟨r, hl⟩, _⟩ | ⟨d, r, hl, _⟩
    · exact .transaction _ (.inr rfl) _ (by rw [hs]; exact ht) hm hb
    · simp at hl
    · simp at hl
  · exact .error _ (by decide) (.inl h3)
  · rcases readBack_cases h3 with ⟨_, ht⟩ | ⟨_, ht⟩ | ⟨d, r, _, ht⟩
    · exact .transaction _ (.inl ⟨rfl, h1⟩) _ (by rw [hs]; exact ht) hm hb
    · exact .error _ (by decide) (.inl ht)
    · exact .shadowed _ _ _ ht hb hr

/-- A step of SET_OSR, SET_IIR or SET_STANDBY. -/
theorem writeField_outcome {i : Instr} {s t : State} (hb : ∀ k p, i ≠ .begin k p) (hr : i ≠ .reset) (addr : Byte)
    (m : Byte → Byte) (hm : mayIssue s.cfg i (.read addr .one) = true) (hw : ∀ v, mayIssue s.cfg i (.write addr v) = true)
    (hs : selectorOf i s = s.tsel) (h : dispatched i s (fun s => writeField s addr m) = .next t) : ExecOutcome i s t := by
  rcases dispatched_cases h with ⟨_, _, h3⟩ | ⟨_, _, h3⟩ | ⟨h1, h3⟩
  · rcases writeField_cases h3 with ⟨_, ht⟩ | ⟨d, hl, _⟩ | ⟨⟨r, hl⟩ | ⟨d, r, hl⟩, _⟩ | ⟨d, e, r, hl, _⟩
    · exact .transaction _ (.inr rfl) _ (by rw [hs]; exact ht) hm hb
    all_goals simp at hl
  · exact .error _ (by decide) (.inl h3)
  · rcases writeField_cases h3 with ⟨_, ht⟩ | ⟨d, _, ht⟩ | ⟨_, ht⟩ | ⟨d, e, r, _, ht⟩
    · exact .transaction _ (.inl ⟨rfl, h1⟩) _ (by rw [hs]; exact ht) hm hb
    · exact .transaction _ (.inl ⟨rfl, h1⟩) _ (by rw [hs]; exact ht) (hw _) hb
    · exact .error _ (by decide) (.inl ht)
    · exact .shadowed _ _ _ ht hb hr

/-- The register and bit position of a sensor's oversampling field, as rule R162 writes them. -/
theorem osrField_eq (sensor : BitVec 2) :
    osrField sensor =
      if sensor = 0 then some (0xF4, 5) else if sensor = 1 then some (0xF2, 0) else if sensor = 2 then some (0xF4, 2) else none := by
  revert sensor; decide

/-- A step that refuses its parameter once dispatched. -/
theorem refused_outcome {i : Instr} {s t : State}
    (h : dispatched i s (fun s => .next (s.raise .invalidParameter)) = .next t) : ExecOutcome i s t := by
  rcases dispatched_cases h with ⟨_, _, h3⟩ | ⟨_, _, h3⟩ | ⟨_, h3⟩
  · exact .error _ (by decide) (.inr (Host.Outcome.next.inj h3).symm)
  · exact .error _ (by decide) (.inl h3)
  · exact .error _ (by decide) (.inl (Host.Outcome.next.inj h3).symm)

/-- A step that answers a value once dispatched. -/
theorem answered_outcome {i : Instr} {s t : State} (hb : ∀ k p, i ≠ .begin k p) (hr : i ≠ .reset) (val : State → Value)
    (h : dispatched i s (fun s => .next (s.respond noFlags (val s) 0 0)) = .next t) : ExecOutcome i s t := by
  rcases dispatched_cases h with ⟨_, _, h3⟩ | ⟨_, _, h3⟩ | ⟨h1, h3⟩
  · exact .answered _ (.inr rfl) _ (Host.Outcome.next.inj h3).symm hb hr
  · exact .error _ (by decide) (.inl h3)
  · exact .answered _ (.inl ⟨rfl, h1⟩) _ (Host.Outcome.next.inj h3).symm hb hr

/-- A step of READ_SENSORS. -/
theorem readSensors_outcome {s t : State} (h : execReadSensors s = .next t) : ExecOutcome .readSensors s t := by
  have body : ∀ u, RunsOn .readSensors s u → sensorsBody u = .next t → ExecOutcome .readSensors s t := by
    intro u hu hb
    obtain ⟨hcfg, hcal, htsel, her⟩ : u.cfg = s.cfg ∧ u.cal = s.cal ∧ u.tsel = s.tsel ∧
        ∀ e, t = u.raise e → t = s.raise e ∨ t = (s.start .readSensors).raise e := by
      rcases hu with ⟨rfl, _⟩ | rfl
      · exact ⟨rfl, rfl, rfl, fun e h => .inl h⟩
      · exact ⟨rfl, rfl, rfl, fun e h => .inr h⟩
    rcases sensorsBody_cases hb with ⟨_, ht⟩ | ⟨_, ht⟩ | ⟨_, _, _, _, ht⟩ | ⟨_, _, _, _, ht⟩ | ⟨_, _, _, ht⟩ |
      ⟨_, _, _, ht⟩ | ⟨_, _, _, _, _, ht⟩ | ⟨st, d, _, r, _, hc, ht⟩
    · exact .polled rfl u hu ht
    · exact .error _ (by decide) (her _ ht)
    · exact .error _ (by decide) (her _ ht)
    · exact .polled rfl u hu ht
    · exact .transaction u hu (.read addrData .eight) (by show t = u.transact s.tsel _; rw [← htsel]; exact ht) (by simp [mayIssue, addrData]) (by simp)
    · exact .error _ (by decide) (her _ ht)
    · exact .error _ (by decide) (her _ ht)
    · exact .measured rfl u hu st d r (by rw [← hcfg, ← hcal]; exact hc) ht
  rcases dispatched_cases (body := sensorsBody) h with ⟨_, _, h3⟩ | ⟨_, _, h3⟩ | ⟨h1, h3⟩
  · exact body _ (.inr rfl) h3
  · exact .error _ (by decide) (.inl h3)
  · exact body _ (.inl ⟨rfl, h1⟩) h3

/-- Every step of every command is one of these cases. -/
theorem exec_outcome {i : Instr} {s t : State} (h : exec i s = .next t) : ExecOutcome i s t := by
  cases i with
  | begin k p =>
    rcases execBegin_cases h with ⟨_, _, _, ht⟩ | ⟨_, _, ht⟩ | ⟨h1, h2⟩
    · exact .error _ (by decide) (.inl ht)
    · exact .beginTransaction _ _ rfl _ (.inr rfl) _ (.inl ht) (by simp only [mayIssue]; decide)
    · rcases beginBody_cases h2 with ⟨tx, hx, ht⟩ | ht | ht | ⟨_, c, ht⟩
      · exact .beginTransaction _ _ rfl _ (.inl ⟨rfl, h1⟩) tx (.inr ht) (by simpa [mayIssue] using mem_beginReads hx)
      · exact .error _ (by decide) (.inl ht)
      · exact .error _ (by decide) (.inl ht)
      · exact .begun _ _ rfl _ ht
  | getMode => exact answered_outcome (by simp) (by simp) (fun s => s.modeCache.setWidth 32) h
  | measTime prec =>
    exact answered_outcome (by simp) (by simp)
      (fun s => BitVec.ofNat 32 (measMicros s.cfg s.shCtrlMeas s.shCtrlHum s.shConfig prec)) h
  | setMode m =>
    rcases execSetMode_cases h with ⟨_, _, ht⟩ | ⟨_, _, ht⟩ | ⟨h1, h2⟩
    · exact .transaction _ (.inr rfl) _ ht (by simp [mayIssue, readsOrWrites, addrCtrlMeas]) (by simp)
    · exact .error _ (by decide) (.inl ht)
    · rcases h2 with ⟨_, ht⟩ | ⟨d, _, ht⟩ | ⟨_, ht⟩ | ⟨d, e, r, _, ht⟩
      · exact .transaction _ (.inl ⟨rfl, h1⟩) _ ht (by simp [mayIssue, readsOrWrites, addrCtrlMeas]) (by simp)
      · exact .transaction _ (.inl ⟨rfl, h1⟩) _ ht (by simp [mayIssue, readsOrWrites, addrCtrlMeas]) (by simp)
      · exact .error _ (by decide) (.inl ht)
      · exact .modeWritten _ _ rfl ht
  | setOsr sensor rate =>
    have h' : dispatched (.setOsr sensor rate) s (fun s => match osrField sensor, rateOk rate with
        | some (addr, shift), true => writeField s addr (withField shift rate)
        | _, _ => .next (s.raise .invalidParameter)) = .next t := h
    clear h
    rw [osrField_eq] at h'
    cases hr : rateOk rate <;> rw [hr] at h'
    · split_ifs at h' <;> exact refused_outcome h'
    · split_ifs at h' with h0 h1 h2
      · exact writeField_outcome (by simp) (by simp) _ _ (by subst h0; simp [mayIssue, readsOrWrites])
          (by subst h0; simp [mayIssue, readsOrWrites]) rfl h'
      · exact writeField_outcome (by simp) (by simp) _ _ (by subst h1; simp [mayIssue, readsOrWrites])
          (by subst h1; simp [mayIssue, readsOrWrites]) rfl h'
      · exact writeField_outcome (by simp) (by simp) _ _ (by subst h2; simp [mayIssue, readsOrWrites])
          (by subst h2; simp [mayIssue, readsOrWrites]) rfl h'
      · exact refused_outcome h'
  | getOsr actual sensor =>
    have h' : dispatched (.getOsr actual sensor) s (fun s => match osrField sensor with
        | some (addr, shift) => readBack s addr fun r => osrValue actual (fieldOf shift r)
        | none => .next (s.raise .invalidParameter)) = .next t := h
    clear h
    rw [osrField_eq] at h'
    split_ifs at h' with h0 h1 h2
    · exact readBack_outcome (by simp) (by simp) _ _ (by subst h0; simp [mayIssue]) rfl h'
    · exact readBack_outcome (by simp) (by simp) _ _ (by subst h1; simp [mayIssue]) rfl h'
    · exact readBack_outcome (by simp) (by simp) _ _ (by subst h2; simp [mayIssue]) rfl h'
    · exact refused_outcome h'
  | getIir => exact readBack_outcome (by simp) (by simp) _ _ (by simp [mayIssue, addrConfig]) rfl h
  | getStandby => exact readBack_outcome (by simp) (by simp) _ _ (by simp [mayIssue, addrConfig]) rfl h
  | setIir v =>
    exact writeField_outcome (by simp) (by simp) _ _ (by simp [mayIssue, addrConfig, readsOrWrites])
      (by simp [mayIssue, addrConfig, readsOrWrites]) rfl h
  | setStandby v =>
    exact writeField_outcome (by simp) (by simp) _ _ (by simp [mayIssue, addrConfig, readsOrWrites])
      (by simp [mayIssue, addrConfig, readsOrWrites]) rfl h
  | readSensors => exact readSensors_outcome h
  | reset =>
    rcases execReset_cases h with ⟨_, _, ht⟩ | ⟨_, _, ht⟩ | ⟨h1, h2⟩
    · exact .resetWritten rfl _ (.inr rfl) ht
    · exact .error _ (by decide) (.inl ht)
    · rcases h2 with ⟨_, ht⟩ | ⟨tx, hx, _, ht⟩ | ht | ht | ⟨_, c, ht⟩
      · exact .resetWritten rfl _ (.inl ⟨rfl, h1⟩) ht
      · exact .transaction _ (.inl ⟨rfl, h1⟩) _ ht (by simp only [mayIssue]; simp [mem_beginReads hx]) (by simp)
      · exact .error _ (by decide) (.inl ht)
      · exact .error _ (by decide) (.inl ht)
      · exact .restarted rfl _ ht

/-- `setShadow` changes at most the three shadows. -/
theorem setShadow_fields (s : State) (addr v : Byte) :
    ∃ x y z, s.setShadow addr v = { s with shCtrlHum := x, shCtrlMeas := y, shConfig := z } := by
  unfold State.setShadow
  split
  · exact ⟨_, _, _, rfl⟩
  · split
    · exact ⟨_, _, _, rfl⟩
    · split <;> exact ⟨_, _, _, rfl⟩

/-- The commit of READ_SENSORS, field by field, as the statements write it. -/
theorem commitResults_eq (s : State) (status : Byte) (r : Results) :
    s.commitResults status r = ended { statusMirrored s status with results := r, resultsWritten := true }
      0 (flagsOf r.pGuard) r.tOut r.pOut r.hOut := by
  obtain ⟨x, y, z, h⟩ := setShadow_fields { s with results := r, resultsWritten := true } s.cfg.statusAddr status
  have hx := congrArg State.shCtrlHum h
  have hy := congrArg State.shCtrlMeas h
  have hz := congrArg State.shConfig h
  simp only [State.setShadow_shCtrlHum, State.setShadow_shCtrlMeas, State.setShadow_shConfig] at hx hy hz
  subst hx hy hz
  unfold State.commitResults
  rw [h]
  rfl

/-- SEQ stays busy over a transaction. -/
theorem advance_ne_idle {q : Seq} (h : q ≠ .idle) : q.advance ≠ .idle := by cases q <;> simp_all [Seq.advance]

/-- SEQ stays busy over a status read. -/
theorem polled_ne_idle {q : Seq} (b : Bool) (h : q ≠ .idle) : q.polled b ≠ .idle := by cases q <;> simp_all [Seq.polled]

end Sys2Proof.Machine
end

