-- ==== Sys2Proof/Laws/PerInstr.lean ====
section
/-! SUPPORT. Statements made once for every command, one lemma a constructor. -/

/-! ### EncodeOpcode: the word of a command carries its opcode in bits 31..28 (30_encoding.md rules R101 and R102) -/

/-- The opcode map of rule R102. -/
def Sys2Proof.Laws.EncodeOpcode.opcode : Sys2Proof.Instr → BitVec 4
  | .begin _ _ => 0x0
  | .getMode => 0x1
  | .setMode _ => 0x2
  | .setOsr _ _ => 0x3
  | .getOsr _ _ => 0x4
  | .getIir => 0x5
  | .setIir _ => 0x6
  | .getStandby => 0x7
  | .setStandby _ => 0x8
  | .measTime _ => 0x9
  | .readSensors => 0xA
  | .reset => 0xB

/-- The top nibble of the command's word is its opcode. -/
def Sys2Proof.Laws.EncodeOpcode.Statement (i : Sys2Proof.Instr) : Prop :=
  Sys2Proof.opOf (Sys2Proof.encode i) = Sys2Proof.Laws.EncodeOpcode.opcode i

namespace Sys2Proof.Laws.EncodeOpcode

/-- The four bits above 28 lower ones, read back. -/
theorem top_nibble (a : BitVec 4) (b : BitVec 28) : ((a ++ b : BitVec 32)).extractLsb' 28 4 = a := by
  apply BitVec.eq_of_toNat_eq
  rw [BitVec.extractLsb'_toNat, BitVec.toNat_append, Nat.shiftRight_eq_div_pow, ← Nat.shiftLeft_add_eq_or_of_lt b.isLt,
    Nat.shiftLeft_eq]
  have := a.isLt
  have := b.isLt
  omega

theorem begin (kind : BitVec 2) (payload : BitVec 24) : Statement (.begin kind payload) := by
  have h : encode (.begin kind payload) = 0x0#4 ++ (kind ++ 0#2 ++ payload : BitVec 28) := by
    apply BitVec.eq_of_toNat_eq
    simp only [encode, BitVec.toNat_append, Nat.shiftLeft_eq]
    simp
  rw [Statement, opOf, h, top_nibble]; rfl
theorem getMode : Statement .getMode := by unfold Statement; decide
theorem setMode (mode : BitVec 2) : Statement (.setMode mode) := by
  unfold Statement; revert mode; decide
theorem setOsr (sensor : BitVec 2) (rate : BitVec 3) : Statement (.setOsr sensor rate) := by
  unfold Statement; revert sensor rate; decide
theorem getOsr (actual : BitVec 1) (sensor : BitVec 2) : Statement (.getOsr actual sensor) := by
  unfold Statement; revert actual sensor; decide
theorem getIir : Statement .getIir := by unfold Statement; decide
theorem setIir (v : BitVec 3) : Statement (.setIir v) := by
  unfold Statement; revert v; decide
theorem getStandby : Statement .getStandby := by unfold Statement; decide
theorem setStandby (v : BitVec 3) : Statement (.setStandby v) := by
  unfold Statement; revert v; decide
theorem measTime (prec : BitVec 1) : Statement (.measTime prec) := by
  unfold Statement; revert prec; decide
theorem readSensors : Statement .readSensors := by unfold Statement; decide
theorem reset : Statement .reset := by unfold Statement; decide

end Sys2Proof.Laws.EncodeOpcode
end

