-- ==== Sys2Proof/Tests/Slice0.lean ====
section
/-! SUPPORT. Tests with expected results from the spec's worked examples and 95_test_vectors.md, and a witness for the
hypotheses of every obligation that has some. -/

namespace Sys2Proof.Tests

open Sys2Proof Sys2Proof.Config Sys2Proof.Machine Sys2Proof.Safety

/-! ### Small states -/

/-- An `ok` answer whose first two bytes are given. -/
def okAns (b0 : Byte) (b1 : Byte := 0) : Answer := .ok ⟨b0, b1, 0, 0, 0, 0, 0, 0⟩

/-- The answers to the calibration reads with the image V-CAL-1 (95_test_vectors.md Part 3), in rule R134's order. -/
def calAnswers : List Answer :=
  [okAns 0x70 0x6B, okAns 0x43 0x67, okAns 0x18 0xFC, okAns 0x7D 0x8E, okAns 0x43 0xD6, okAns 0xD0 0x0B, okAns 0x27 0x0B,
   okAns 0x8C 0x00, okAns 0xF9 0xFF, okAns 0x8C 0x3C, okAns 0xF8 0xC6, okAns 0x70 0x17] ++
  [okAns 0x4B, okAns 0x6A 0x01, okAns 0x00, okAns 0x13, okAns 0x29, okAns 0x29, okAns 0x03, okAns 0x1E]

/-- The constants of V-CAL-1 as values (95_test_vectors.md Part 3), negative ones as their patterns. -/
def cal1 : Calibration :=
  ⟨27504, 26435, -1000, 36477, -10685, 3024, 2855, 140, -7, 15500, -14600, 6000, 75, 362, 0, 313, 50, 30⟩

/-- The burst of rule R200's example. -/
def burst1 : BurstData := ⟨0x65, 0x5A, 0xC0, 0x7E, 0xED, 0x00, 0x75, 0x30⟩

/-- A Ready engine on I2C 0x76 with V-CAL-1. -/
def ready : State :=
  { State.reset with engState := .ready, calValid := true, calWritten := true, cal := cal1, tselValid := true, tsel := ⟨0, 0x76⟩ }

/-- `s` executing the command `i`, with these answers received. -/
def during (s : State) (i : Instr) (l : List Answer) : State :=
  { s with seq := .busy (encode i) l.length 0, latch := l }

/-- The next state of an outcome. -/
def nextOf (o : Host.Outcome State Fault Refusal) : Option State :=
  match o with
  | .next t => some t
  | _ => none

/-- The response a step delivers, where it completes a command. -/
def answerOf (o : Host.Outcome State Fault Refusal) : Option Response :=
  match o with
  | .next t => if t.seq = .idle then some t.rsp else none
  | _ => none

/-- The transaction a step makes. -/
def txnOf (o : Host.Outcome State Fault Refusal) : Option Transaction :=
  match o with
  | .next t => t.busTrace.head?.map (·.txn)
  | _ => none

/-! ### Well-formedness -/

/-- Rule R103: TKIND 3; bit 7 of an I2C payload (V-ENC-2); bit 6 of a HardwareSPI payload (V-ENC-4). -/
theorem test_wellFormed_refuses :
    (Instr.begin 3 0).wellFormed = false ∧ (Instr.begin 0 0x80).wellFormed = false ∧ (Instr.begin 1 0x40).wellFormed = false := by
  decide

/-- The largest payload of each kind (rule R103). -/
theorem test_wellFormed_accepts :
    (Instr.begin 0 0x7F).wellFormed = true ∧ (Instr.begin 1 0x3F).wellFormed = true ∧ (Instr.begin 2 0xFFFFFF).wellFormed = true := by
  decide

/-! ### Decoding: words written bit by bit from the encoding summary of 30_encoding.md -/

theorem test_decode_begin_i2c : decode 0b00000000000000000000000001110110 = .ok (.begin 0 0x76) := by decide
theorem test_decode_begin_hwspi : decode 0b00000100000000000000000000100000 = .ok (.begin 1 32) := by decide
/-- V-ENC-5: cs 10, mosi 11, miso 12, sck 13. -/
theorem test_decode_begin_swspi :
    decode 0b00001000001101001100001011001010 = .ok (.begin 2 (13 * 2 ^ 18 + 12 * 2 ^ 12 + 11 * 2 ^ 6 + 10)) := by decide
theorem test_decode_getMode : decode 0b00010000000000000000000000000000 = .ok .getMode := by decide
theorem test_decode_setMode : decode 0b00100000000000000000000000000010 = .ok (.setMode 2) := by decide
theorem test_decode_setOsr : decode 0b00110000000000000000000000100101 = .ok (.setOsr 2 5) := by decide
theorem test_decode_getOsr : decode 0b01000000000000000000000100010000 = .ok (.getOsr 1 1) := by decide
theorem test_decode_getIir : decode 0b01010000000000000000000000000000 = .ok .getIir := by decide
theorem test_decode_setIir : decode 0b01100000000000000000000000000100 = .ok (.setIir 4) := by decide
theorem test_decode_getStandby : decode 0b01110000000000000000000000000000 = .ok .getStandby := by decide
theorem test_decode_setStandby : decode 0b10000000000000000000000000000111 = .ok (.setStandby 7) := by decide
theorem test_decode_measTime : decode 0b10010000000000000000000000000001 = .ok (.measTime 1) := by decide
theorem test_decode_readSensors : decode 0b10100000000000000000000000000000 = .ok .readSensors := by decide
theorem test_decode_reset : decode 0b10110000000000000000000000000000 = .ok .reset := by decide

/-- V-ENC-2, 4, 6, 7, 8, 9, 11, 12, 13 and 14. -/
theorem test_decode_rejects :
    decode 0x00000080 = .error .reservedBits ∧ decode 0x04000040 = .error .reservedBits ∧
    decode 0x0C000000 = .error .reservedKind ∧ decode 0x01000000 = .error .reservedBits ∧
    decode 0x10000001 = .error .reservedBits ∧ decode 0x30000008 = .error .reservedBits ∧
    decode 0x40000200 = .error .reservedBits ∧ decode 0x90000002 = .error .reservedBits ∧
    decode 0xC0000000 = .error .reservedOpcode ∧ decode 0xFFFFFFFF = .error .reservedOpcode ∧
    decode 0x20000004 = .error .reservedBits := by decide

/-- V-ENC-10: SENSOR 3 and RATE 6 are legal codes. -/
theorem test_decode_accepts_invalid_parameters : decode 0x30000036 = .ok (.setOsr 3 6) := by decide

/-- Worked examples of rules R140, R161, R162 and R163, and program lines of 95_test_vectors.md Part 5. -/
theorem test_assemble :
    Assembler.assemble (.beginI2c 0x76) = some 0x00000076#32 ∧ Assembler.assemble (.beginSwSpi 10 11 12 13) = some 0x0834C2CA#32 ∧
    Assembler.assemble (.setMode .forced) = some 0x20000001#32 ∧ Assembler.assemble (.setOsr .pressure .x16) = some 0x30000025#32 ∧
    Assembler.assemble (.getOsr .temperature true) = some 0x40000100#32 ∧ Assembler.assemble (.measTime .maximum) = some 0x90000001#32 ∧
    Assembler.assemble (.beginI2c 0x80) = none ∧ Assembler.assemble (.setIir 8) = none := by decide

/-- `withFetchWord` presents the word that `step` takes next. -/
theorem test_fetch :
    decodeTableWord 32 0x30000025 = some (.setOsr 2 5) ∧ (State.reset.withFetchWord 32 0x30000025).hostWords = [0x30000025#32] := by decide

/-! ### One step of each command -/

/-- V-CAL-1 and the first row of S-3: the constants a completing BEGIN commits. -/
theorem test_begin_calibration :
    (nextOf (exec (.begin 0 0x76) (during State.reset (.begin 0 0x76) (okAns 0x60 :: calAnswers)))).map
      (fun t => (t.cal, t.engState, t.tselValid)) = some (cal1, .ready, true) := by decide

/-- V-ERR-2: chip-id 0x58; no calibration read. -/
theorem test_begin_mismatch :
    answerOf (exec (.begin 0 0x76) (during State.reset (.begin 0 0x76) [okAns 0x58])) = some ⟨1, 0, 0, 0, 0⟩ := by decide

/-- V-CFG-14. -/
theorem test_getMode : answerOf (exec .getMode { ready with modeCache := 3 }) = some ⟨0, 0, 3, 0, 0⟩ := by decide

/-- V-CFG-1, the write. -/
theorem test_setMode_write :
    txnOf (exec (.setMode 0) (during ready (.setMode 0) [okAns 0xFF])) = some (.write 0xF4 0xFC) := by decide

/-- V-CFG-16: a failed write. -/
theorem test_setMode_failed :
    (nextOf (exec (.setMode 1) (during ready (.setMode 1) [okAns 0x24, .fail]))).map (fun t => (t.rsp.status, t.modeCache, t.shCtrlMeas)) =
      some (3, 0, 0) := by decide

/-- V-CFG-4, the write, and V-CFG-3's shadow. -/
theorem test_setOsr :
    txnOf (exec (.setOsr 2 5) (during ready (.setOsr 2 5) [okAns 0xFF])) = some (.write 0xF4 0xF7) ∧
    (nextOf (exec (.setOsr 1 0) (during ready (.setOsr 1 0) [okAns 0xFF, okAns 0]))).map (·.shCtrlHum) = some 0xF8 := by decide

/-- V-CFG-11 and V-CFG-12. -/
theorem test_setOsr_invalid :
    answerOf (exec (.setOsr 3 6) ready) = some ⟨2, 0, 0, 0, 0⟩ ∧ answerOf (exec (.setOsr 0 7) ready) = some ⟨2, 0, 0, 0, 0⟩ := by decide

/-- V-CFG-7 and V-CFG-8. -/
theorem test_getOsr :
    answerOf (exec (.getOsr 0 1) (during ready (.getOsr 0 1) [okAns 0xFE])) = some ⟨0, 0, 6, 0, 0⟩ ∧
    answerOf (exec (.getOsr 1 2) (during ready (.getOsr 1 2) [okAns 0x7F])) = some ⟨0, 0, 16, 0, 0⟩ := by decide

/-- V-CFG-9. -/
theorem test_getIir : answerOf (exec .getIir (during ready .getIir [okAns 0xFF])) = some ⟨0, 0, 7, 0, 0⟩ := by decide

/-- Rule R166's example. -/
theorem test_setIir : txnOf (exec (.setIir 4) (during ready (.setIir 4) [okAns 0xA0])) = some (.write 0xF5 0xB0) := by decide

/-- V-CFG-10. -/
theorem test_getStandby : answerOf (exec .getStandby (during ready .getStandby [okAns 0x5C])) = some ⟨0, 0, 2, 0, 0⟩ := by decide

/-- Rule R168's example. -/
theorem test_setStandby : txnOf (exec (.setStandby 5) (during ready (.setStandby 5) [okAns 0x10])) = some (.write 0xF5 0xB0) := by decide

/-- V-MT-2, columns typ,F,F and max,F,F. -/
theorem test_measTime :
    answerOf (exec (.measTime 0) { ready with shCtrlMeas := 0x24, shCtrlHum := 1 }) = some ⟨0, 0, 8000, 0, 0⟩ ∧
    answerOf (exec (.measTime 1) { ready with shCtrlMeas := 0x24, shCtrlHum := 1 }) = some ⟨0, 0, 9300, 0, 0⟩ := by decide

/-- V-MT-8, column max,T,T: the bound of rule R190. -/
theorem test_measTime_bound :
    answerOf (exec (.measTime 1) { ready with
      cfg := { Params.default with timeIncludesStandby := true, fixedCostIncludesT := true }
      shCtrlMeas := 0xFC, shCtrlHum := 7, shConfig := 0xA0 }) = some ⟨0, 0, 1113375, 0, 0⟩ := by decide

/-- Rule R200's example. -/
theorem test_readSensors :
    answerOf (exec .readSensors (during ready .readSensors [okAns 0, .ok burst1])) = some ⟨0, 0, 2508, 100653, 5499⟩ := by decide

/-- Rule R37 with STATUS_ADDR 0xF4: SH_CTRL_MEAS is the last status byte, here 0x24; at the default 0xF3 it is as it was. -/
theorem test_readSensors_statusShadow :
    (nextOf (exec .readSensors (during { ready with cfg := { Params.default with statusAddr := 0xF4 } } .readSensors
      [okAns 0x24, .ok burst1]))).map (fun t => (t.shCtrlHum, t.shCtrlMeas, t.shConfig)) = some (0, 0x24, 0) ∧
    (nextOf (exec .readSensors (during ready .readSensors [okAns 0x24, .ok burst1]))).map
      (fun t => (t.shCtrlHum, t.shCtrlMeas, t.shConfig)) = some (0, 0, 0) := by decide

/-- V-ERR-9: the constants of V-T-6 under `fault`. -/
theorem test_readSensors_overflow :
    answerOf (exec .readSensors (during { ready with cfg := { Params.default with ovfPolicy := .fault }
                                                     cal := { cal1 with digT1 := 0, digT2 := 32767, digT3 := 32767 } }
      .readSensors [okAns 0, .ok ⟨0, 0, 0, 0xFF, 0xFF, 0xF0, 0, 0⟩])) = some ⟨7, 0, 0, 0, 0⟩ := by decide

/-- Program P4 line 1, the reset write. -/
theorem test_reset_write :
    (nextOf (exec .reset { ready with modeCache := 1, shConfig := 0xA0, script := [okAns 0] })).map
      (fun t => (t.busTrace.head?.map (·.txn), t.engState, t.modeCache, t.shConfig)) =
      some (some (.write 0xE0 0xB6), .uninitialized, 0, 0) := by decide

/-- Program P4b: the reset write failed. -/
theorem test_reset_failed :
    (nextOf (exec .reset (during { ready with engState := .uninitialized, modeCache := 1 } .reset [.fail]))).map
      (fun t => (t.rsp.status, t.modeCache, t.tselValid)) = some (3, 1, true) := by decide

/-! ### The datapath (95_test_vectors.md Part 4) -/

/-- V-AR-1 to V-AR-13. -/
theorem test_primitives :
    tdiv64 .wrap (-7) 2 = some (-3) ∧ tdiv64 .wrap 7 (-2) = some (-3) ∧ tdiv64 .wrap (-7) (-2) = some 3 ∧
    asr (-163839) 11 = -80 ∧ asr (-1) 15 = -1 ∧ add .wrap 32 2147483647 1 = some (-2147483648) ∧
    add .fault 32 2147483647 1 = none ∧ mul .wrap 32 65535 65535 = some (-131071) ∧ shl .fault 32 (-1) 31 = some (-2147483648) ∧
    shl .wrap 32 1 31 = some (-2147483648) ∧ u32 (-1697504) = 4293269792 ∧ lsr 4293269792 8 = 16770585 ∧
    clamp (-5) 0 419430400 = 0 := by decide

/-- V-T-1, 2, 5 and 6; the output-step extremes. -/
theorem test_temperature :
    compTFine .wrap cal1 519888 = some 128422 ∧ compTFine .wrap cal1 0 = some (-721301) ∧ compTFine .wrap cal1 440000 = some (-104) ∧
    compTFine .wrap { cal1 with digT1 := 0, digT2 := 32767, digT3 := 32767 } 1048575 = some (-144) ∧
    tempOut (-104) = -2 ∧ tempOut 2147483647 = 41943040 ∧ tempOut (-2147483648) = -41943040 := by decide

/-- V-P-1, 4, 6 and 7, the last one under both policies. -/
theorem test_pressure :
    compP .wrap cal1 415148 128422 = some ⟨25767233, 100653, false⟩ ∧
    compP .wrap cal1 1048575 128422 = some ⟨4293269792, 16770585, false⟩ ∧
    compP .fault { cal1 with digP1 := 0 } 415148 128422 = some ⟨0, 0, true⟩ ∧
    compP .wrap { cal1 with digP1 := 1 } 415148 128422 = some ⟨3450471220, 13478403, false⟩ ∧
    compP .fault { cal1 with digP1 := 1 } 415148 128422 = none := by decide

/-- V-H-1, 7, 8, 9, 10, 14 and 15; S-2's boundaries. -/
theorem test_humidity :
    humidityOf .wrap .sign cal1 30000 128422 = some 230678058 ∧ humidityOf .wrap .sign cal1 20188 128422 = some (-47405) ∧
    humidityOf .wrap .sign cal1 20189 128422 = some 0 ∧ humidityOf .wrap .sign cal1 38147 128422 = some 419471000 ∧
    humidityOf .wrap .sign { cal1 with digH4 := 0x80F } 30000 128422 = some 1910473686 ∧
    humidityOf .fault .zero { cal1 with digH4 := 0x80F } 30000 128422 = none ∧
    humidityQ (-1) = 0 ∧ humidityQ 419430400 = 102400 ∧ humidityQ 419430401 = 102400 ∧
    humidityOut 56317 = 5499 ∧ humidityOut 11 = 1 ∧ humidityOut 102400 = 10000 := by decide

/-- S-3, rows 2 and 3. -/
theorem test_nibbles :
    extendH45 .sign 0x80F = -2033 ∧ extendH45 .zero 0x80F = 2063 ∧ extendH45 .sign 0xFFF = -1 ∧ extendH45 .zero 0xFFF = 4095 := by decide

/-! ### Witnesses: a concrete state that meets the hypotheses of each obligation that has some, clause by clause -/

/-- The engine executing READ_SENSORS, with these answers received after `p` status reads. -/
def sensing (s : State) (l : List Answer) (k p : Nat) : State := { s with seq := .busy (encode .readSensors) k p, latch := l }

/-- Parameters with a poll limit and a policy. -/
def params (limit : Option Nat) (policy : OvfPolicy) : Params := { Params.default with pollLimit := limit, ovfPolicy := policy }

/-- All the shapes of state the clauses of `IsRegisterRead` and `IsReadModifyWrite` speak of, for a command `i`. -/
def RegisterCommandShapes (i : Instr) : Prop :=
  (State.reset.seq = .idle ∧ State.reset.engState = .uninitialized) ∧ (ready.seq = .idle ∧ ready.engState = .ready) ∧
  (∃ w k p, (during ready i [.fail]).seq = .busy w k p ∧ (during ready i [.fail]).latch = [.fail]) ∧
  (∃ w k p d, (during ready i [okAns 0xFF]).seq = .busy w k p ∧ (during ready i [okAns 0xFF]).latch = [.ok d]) ∧
  (∃ w k p d, (during ready i [okAns 0xFF, .fail]).seq = .busy w k p ∧ (during ready i [okAns 0xFF, .fail]).latch = [.ok d, .fail]) ∧
  (∃ w k p d e, (during ready i [okAns 0xFF, okAns 0]).seq = .busy w k p ∧ (during ready i [okAns 0xFF, okAns 0]).latch = [.ok d, .ok e])

/-- Each shape is the state it names. -/
theorem registerCommandShapes (i : Instr) : RegisterCommandShapes i :=
  ⟨⟨rfl, rfl⟩, ⟨rfl, rfl⟩, ⟨_, _, _, rfl, rfl⟩, ⟨_, _, _, _, rfl, rfl⟩, ⟨_, _, _, _, rfl, rfl⟩, ⟨_, _, _, _, _, rfl, rfl⟩⟩

theorem witness_DecodeOfEncode :
    (Instr.begin 0 0x7F).wellFormed = true ∧ (Instr.begin 1 0x3F).wellFormed = true ∧ (Instr.begin 2 0xFFFFFF).wellFormed = true ∧
    (Instr.setOsr 3 7).wellFormed = true ∧ (Instr.getOsr 1 3).wellFormed = true := by decide

theorem witness_EncodeOfDecode : decode 0x0BFFFFFF = .error .reservedBits ∧ decode 0x08FFFFFF = .ok (.begin 2 0xFFFFFF) := by decide

theorem witness_DecoderAcceptsTheWellFormedWords :
    wordWellFormed 0x0400003F ∧ ¬ wordWellFormed 0x04000040 ∧ ¬ wordWellFormed 0x0C000000 ∧ ¬ wordWellFormed 0xC0000000 := by
  unfold wordWellFormed; decide

theorem witness_AssemblerEmitsWellFormedWords :
    Assembler.assemble (.setOsr .unknown (.code 7)) = some 0x30000037#32 ∧ Assembler.assemble (.beginHwSpi 63) = some 0x0400003F#32 := by decide

theorem witness_StepRunsTheDecodedCommand :
    ({ ready with hostWords := [0x10000000] } : State).seq = .idle ∧
    ({ ready with hostWords := [0x10000000] } : State).hostWords = 0x10000000 :: [] ∧ decode 0x10000000 = .ok .getMode ∧
    (during ready .getIir [okAns 0]).seq = .busy 0x50000000 1 0 ∧ decode 0x50000000 = .ok .getIir := by decide

theorem witness_IllFormedWordIsIllegalCommand :
    ({ State.reset with hostWords := [0x20000004] } : State).seq = .idle ∧
    ({ State.reset with hostWords := [0x20000004] } : State).hostWords = 0x20000004 :: [] ∧ ¬ wordWellFormed 0x20000004 := by
  unfold wordWellFormed; decide

theorem witness_IdleEngineWaitsForAWord : State.reset.seq = .idle ∧ State.reset.hostWords = [] := by decide

theorem witness_HostWordsAreTakenOnlyWhenIdle :
    (∃ t, Sys2Proof.Machine.step { during ready .getIir [okAns 0] with hostWords := [0xC0000000] } = .next t) ∧
    (during ready .getIir [okAns 0]).seq ≠ .idle ∧
    (∃ t, Sys2Proof.Machine.step { ready with hostWords := [0xC0000000] } = .next t) ∧ ready.seq = .idle :=
  ⟨⟨_, rfl⟩, by decide, ⟨_, rfl⟩, rfl⟩

theorem witness_EachStepIsATransactionOrTheCompletion :
    (∃ t, exec .getIir ready = .next t) ∧ (∃ t, exec .getIir (during ready .getIir [okAns 0]) = .next t) := ⟨⟨_, rfl⟩, ⟨_, rfl⟩⟩

theorem witness_NotReadyUntilBegin :
    (∀ kind payload, Instr.readSensors ≠ .begin kind payload) ∧ State.reset.seq = .idle ∧ State.reset.engState = .uninitialized :=
  ⟨by simp, rfl, rfl⟩

theorem witness_TransactionsAreThoseOfTheTable :
    (∃ t, exec (.begin 0 0x76) State.reset = .next t) ∧ (∃ t, exec .getMode ready = .next t) := ⟨⟨_, rfl⟩, ⟨_, rfl⟩⟩

theorem witness_ParametersNeverChange : ∃ t, Sys2Proof.Machine.step State.reset = .next t := ⟨_, rfl⟩

theorem witness_ControlInvariantIsKept :
    controlOk (sensing ready [okAns 0x08] 0 1) = true ∧ ∃ t, Sys2Proof.Machine.step (sensing ready [okAns 0x08] 0 1) = .next t :=
  ⟨by decide, _, rfl⟩

theorem witness_ResponseInvariantIsKept :
    responsesOk { ready with rsp := ⟨7, 0, 0, 0, 0⟩, rspWritten := true, delivered := [⟨7, 0, 0, 0, 0⟩] } = true ∧
    ∃ t, Sys2Proof.Machine.step { ready with rsp := ⟨7, 0, 0, 0, 0⟩, rspWritten := true, delivered := [⟨7, 0, 0, 0, 0⟩] } = .next t :=
  ⟨by decide, _, rfl⟩

theorem witness_ResultRangesAreKept :
    resultsOk { ready with results := { Results.unwritten with tOut := 41943040, hQ22_10 := 102400, hOut := 10000, pOut := 0xFFFFFF } } = true ∧
    ∃ t, Sys2Proof.Machine.step ready = .next t := ⟨by decide, _, rfl⟩

theorem witness_LatchedTransportIsImmutable :
    controlOk ready = true ∧ ready.tselValid = true ∧ ∃ t, Sys2Proof.Machine.step ready = .next t := ⟨by decide, rfl, _, rfl⟩

theorem witness_OnlyBeginAndResetWriteTheLifecycle :
    (∀ kind payload, Instr.getIir ≠ .begin kind payload) ∧ Instr.getIir ≠ .reset ∧ ∃ t, exec .getIir ready = .next t :=
  ⟨by simp, by simp, _, rfl⟩

theorem witness_OnlyReadSensorsWritesResults :
    nextOf (exec .readSensors (sensing ready [okAns 0, .ok burst1] 2 1)) ≠ none ∧ ∃ t, exec .getMode ready = .next t :=
  ⟨by decide, _, rfl⟩

theorem witness_OnlySetModeAndResetWriteModeCache :
    ∃ t, exec (.setMode 3) (during ready (.setMode 3) [okAns 0, okAns 0]) = .next t := ⟨_, rfl⟩

theorem witness_ShadowsChangeOnlyOnSuccess :
    (∃ t, exec (.setIir 7) (during ready (.setIir 7) [okAns 0, okAns 0]) = .next t) ∧
    ∃ t, exec .reset { ready with script := [okAns 0] } = .next t := ⟨⟨_, rfl⟩, _, rfl⟩

theorem witness_BeginStartsWithTheChipId :
    State.reset.seq = .idle ∧ State.reset.tselValid = false ∧ ready.seq = .idle ∧ (⟨0, 0x76⟩ : Selector) = ready.tsel := by decide

theorem witness_ChipIdMismatchIsDeviceNotFound :
    (∃ w k p, (during State.reset (.begin 0 0x76) [.fail]).seq = .busy w k p ∧ (during State.reset (.begin 0 0x76) [.fail]).latch = .fail :: []) ∧
    (∃ w k p d, (during ready .reset [okAns 0, okAns 0x58]).seq = .busy w k p ∧
      (during ready .reset [okAns 0, okAns 0x58]).latch = .ok d :: okAns 0x58 :: []) ∧
    ∃ d, okAns 0x58 = .ok d ∧ d.b0 ≠ ready.cfg.chipId :=
  ⟨⟨_, _, _, rfl, rfl⟩, ⟨_, _, _, _, rfl, rfl⟩, _, rfl, by decide⟩

theorem witness_BeginLoadsCalibrationInOrder :
    (∃ w k p d, (during State.reset (.begin 0 0x76) [okAns 0x60, .fail]).seq = .busy w k p ∧
      (during State.reset (.begin 0 0x76) [okAns 0x60, .fail]).latch = .ok d :: [.fail] ∧ d.b0 = State.reset.cfg.chipId) ∧
    Answer.fail ∈ [Answer.fail] ∧ Answer.fail ∉ calAnswers.take 19 ∧ beginReads[(calAnswers.take 19).length + 1]? = some (.read 0xE7 .one) ∧
    Answer.fail ∉ ([] : List Answer) ∧ beginReads[([] : List Answer).length + 1]? = some (.read 0x88 .two) :=
  ⟨⟨_, _, _, _, rfl, rfl, by decide⟩, by decide, by decide, by decide, by decide, by decide⟩

/-- The state after a BEGIN's 21 reads, all answered `ok`. -/
theorem witness_BeginCompletes :
    ∃ (s : State) (w : CmdWord) (k p : Nat) (d : BurstData) (c : Nat → BurstData), s.seq = .busy w k p ∧ d.b0 = s.cfg.chipId ∧
      s.latch = .ok d :: (List.range 20).map (fun n => .ok (c n)) :=
  ⟨during State.reset (.begin 0 0x76) (okAns 0x60 :: (List.range 20).map (fun _ => .ok burst1)), _, _, _, ⟨0x60, 0, 0, 0, 0, 0, 0, 0⟩,
    fun _ => burst1, rfl, by decide, rfl⟩

theorem witness_BeginRunsFromAcceptanceToReady :
    ∃ (s : State) (w : CmdWord) (ws : List CmdWord) (d : BurstData) (c : Nat → BurstData) (rest : List Answer),
      s.seq = .idle ∧ s.hostWords = w :: ws ∧ decode w = .ok (.begin 0 0x76) ∧ s.tselValid = false ∧ d.b0 = s.cfg.chipId ∧
      s.script = .ok d :: ((List.range 20).map (fun n => .ok (c n)) ++ rest) :=
  ⟨{ State.reset with hostWords := [0x76], script := okAns 0x60 :: ((List.range 20).map (fun _ => .ok burst1) ++ []) }, 0x76, [],
    ⟨0x60, 0, 0, 0, 0, 0, 0, 0⟩, fun _ => burst1, [], rfl, rfl, by decide, rfl, by decide, rfl⟩

theorem witness_ResetWritesTheResetCode :
    ready.seq = .idle ∧ ready.engState = .ready ∧
    State.ask { ready with script := [.fail] } ready.tsel (.write 0xE0 ready.cfg.resetCode) = .fail ∧
    ∃ d, State.ask { ready with script := [okAns 0] } ready.tsel (.write 0xE0 ready.cfg.resetCode) = .ok d :=
  ⟨rfl, rfl, rfl, _, rfl⟩

theorem witness_ResetRerunsTheBeginBody :
    (∃ w k p rest, (during ready .reset [.fail]).seq = .busy w k p ∧ (during ready .reset [.fail]).latch = .fail :: rest) ∧
    (∃ w k p e, (during ready .reset [okAns 0]).seq = .busy w k p ∧ (during ready .reset [okAns 0]).latch = [.ok e]) ∧
    (∃ w k p e d, (during ready .reset (okAns 0 :: okAns 0x60 :: calAnswers.take 19)).seq = .busy w k p ∧
      (during ready .reset (okAns 0 :: okAns 0x60 :: calAnswers.take 19)).latch = .ok e :: .ok d :: calAnswers.take 19 ∧ d.b0 = ready.cfg.chipId) ∧
    Answer.fail ∉ calAnswers.take 19 ∧ beginReads[(calAnswers.take 19).length + 1]? = some (.read 0xE7 .one) ∧
    (∃ w k p e d, (during ready .reset [okAns 0, okAns 0x60, .fail]).seq = .busy w k p ∧
      (during ready .reset [okAns 0, okAns 0x60, .fail]).latch = .ok e :: .ok d :: [.fail] ∧ d.b0 = ready.cfg.chipId) ∧
    Answer.fail ∈ [Answer.fail] :=
  ⟨⟨_, _, _, _, rfl, rfl⟩, ⟨_, _, _, _, rfl, rfl⟩, ⟨_, _, _, _, _, rfl, rfl, by decide⟩, by decide, by decide,
    ⟨_, _, _, _, _, rfl, rfl, by decide⟩, by decide⟩

theorem witness_ResetCompletes :
    ∃ (s : State) (w : CmdWord) (k p : Nat) (e d : BurstData) (c : Nat → BurstData), s.seq = .busy w k p ∧ d.b0 = s.cfg.chipId ∧
      s.latch = .ok e :: .ok d :: (List.range 20).map (fun n => .ok (c n)) :=
  ⟨during ready .reset (.ok burst1 :: okAns 0x60 :: (List.range 20).map (fun _ => .ok burst1)), _, _, _, burst1,
    ⟨0x60, 0, 0, 0, 0, 0, 0, 0⟩, fun _ => burst1, rfl, by decide, rfl⟩

theorem witness_GetModeReturnsTheCache :
    ready.seq = .idle ∧ ready.engState = .ready ∧ State.reset.seq = .idle ∧ State.reset.engState = .uninitialized := by decide

theorem witness_SetModeWritesTheModeBits : RegisterCommandShapes (.setMode 3) := registerCommandShapes _

theorem witness_SetOsrWritesOneField :
    (5#3).toNat < 6 ∧ RegisterCommandShapes (.setOsr 0 5) ∧ RegisterCommandShapes (.setOsr 1 5) ∧ RegisterCommandShapes (.setOsr 2 5) ∧
    ready.seq = .idle ∧ ready.engState = .ready ∧ (3 ≤ (3#2).toNat ∨ 6 ≤ (0#3).toNat) ∧ (3 ≤ (2#2).toNat ∨ 6 ≤ (6#3).toNat) :=
  ⟨by decide, registerCommandShapes _, registerCommandShapes _, registerCommandShapes _, rfl, rfl, by decide, by decide⟩

theorem witness_InvalidParametersAreRefused :
    ready.seq = .idle ∧ ready.engState = .ready ∧ (3 ≤ (2#2).toNat ∨ 6 ≤ (6#3).toNat) ∧ 3 ≤ (3#2).toNat ∧ ready.tselValid = true ∧
    (⟨0, 0x77⟩ : Selector) ≠ ready.tsel ∧ (nextOf (exec (.setOsr 2 6) ready)).map (fun t => (t.seq, t.rsp.status)) = some (.idle, 2) ∧
    (nextOf (exec (.getOsr 0 3) ready)).map (fun t => (t.seq, t.rsp.status)) = some (.idle, 2) ∧
    (nextOf (exec (.begin 0 0x77) ready)).map (fun t => (t.seq, t.rsp.status)) = some (.idle, 2) := by decide

theorem witness_GetOsrReadsBackACode :
    RegisterCommandShapes (.getOsr 1 0) ∧ RegisterCommandShapes (.getOsr 0 1) ∧ RegisterCommandShapes (.getOsr 1 2) ∧
    ready.seq = .idle ∧ ready.engState = .ready :=
  ⟨registerCommandShapes _, registerCommandShapes _, registerCommandShapes _, rfl, rfl⟩

theorem witness_ConfigGettersReadTheirField : RegisterCommandShapes .getIir ∧ RegisterCommandShapes .getStandby :=
  ⟨registerCommandShapes _, registerCommandShapes _⟩

theorem witness_ConfigSettersWriteTheirField : RegisterCommandShapes (.setIir 7) ∧ RegisterCommandShapes (.setStandby 7) :=
  ⟨registerCommandShapes _, registerCommandShapes _⟩

/-- A Ready engine with two words to take and these answers to come. -/
def twoWords (i j : Instr) (l : List Answer) : State := { ready with hostWords := [encode i, encode j], script := l }

theorem witness_SetModeGetModeRoundTrip :
    (twoWords (.setMode 3) .getMode [okAns 0xB7, okAns 0]).seq = .idle ∧ (twoWords (.setMode 3) .getMode [okAns 0xB7, okAns 0]).engState = .ready ∧
    (twoWords (.setMode 3) .getMode [okAns 0xB7, okAns 0]).hostWords = encode (.setMode 3) :: encode .getMode :: [] ∧
    ∃ d e rest, (twoWords (.setMode 3) .getMode [okAns 0xB7, okAns 0]).script = .ok d :: .ok e :: rest :=
  ⟨rfl, rfl, rfl, _, _, _, rfl⟩

/-- S-4: SET_OSR P, x8 with read 0x00 writes 0x10, and the third answer is that byte. -/
theorem witness_SetOsrGetOsrRoundTrip :
    (2#2).toNat < 3 ∧ (4#3).toNat < 6 ∧ (twoWords (.setOsr 2 4) (.getOsr 0 2) [okAns 0, okAns 0, okAns 0x10]).seq = .idle ∧
    (twoWords (.setOsr 2 4) (.getOsr 0 2) [okAns 0, okAns 0, okAns 0x10]).engState = .ready ∧
    (nextOf (Host.Core.run Sys2Proof.core 2 (twoWords (.setOsr 2 4) (.getOsr 0 2) [okAns 0, okAns 0, okAns 0x10]))).map
      (fun u => u.busTrace.head?.map (·.txn)) = some (some (.write 0xF4 0x10)) := by decide

theorem witness_MeasTimeReturnsTheEstimate :
    State.reset.seq = .idle ∧ State.reset.engState = .uninitialized ∧ ready.seq = .idle ∧ ready.engState = .ready := by decide

theorem witness_MeasTimeIsBounded :
    (0x03#8).extractLsb' 2 6 = 0#6 ∧ (0xF8#8).extractLsb' 0 3 = 0#3 ∧ Params.default.timeIncludesStandby = false := by decide

theorem witness_ReadSensorsPollsTheStatus :
    ready.seq = .idle ∧ ready.engState = .ready ∧ (sensing { ready with cfg := params (some 2) .wrap } [okAns 0x08] 0 1).seq =
      .busy (encode .readSensors) 0 1 ∧
    (∃ st, (sensing { ready with cfg := params (some 2) .wrap } [okAns 0x08] 0 1).latch = [.ok st] ∧ st.b0 &&& 0x09#8 ≠ 0#8) ∧
    (∀ n, (params (some 2) .wrap).pollLimit = some n → 1 < n) :=
  ⟨rfl, rfl, rfl, ⟨_, rfl, by decide⟩, fun n h => by cases h; decide⟩

theorem witness_PollLimitGivesTimeout :
    (sensing { ready with cfg := params (some 1) .wrap } [okAns 0x08] 0 1).seq = .busy (encode .readSensors) 0 1 ∧
    (∃ st, (sensing { ready with cfg := params (some 1) .wrap } [okAns 0x08] 0 1).latch = [.ok st] ∧ st.b0 &&& 0x09#8 ≠ 0#8) ∧
    (params (some 1) .wrap).pollLimit = some 1 ∧ 1 ≤ 1 ∧ ready.cfg.pollLimit = none ∧
    (nextOf (exec .readSensors (sensing ready [.fail] 0 1))).map (·.seq) = some .idle :=
  ⟨rfl, ⟨_, rfl, by decide⟩, rfl, Nat.le_refl 1, rfl, by decide⟩

theorem witness_ReadSensorsReadsOneBurst :
    (∃ w k p st, (sensing ready [okAns 0xF6] 1 1).seq = .busy w k p ∧ (sensing ready [okAns 0xF6] 1 1).latch = [.ok st] ∧ st.b0 &&& 0x09#8 = 0#8) ∧
    (∃ w k p, (sensing ready [.fail] 0 1).seq = .busy w k p ∧ (sensing ready [.fail] 0 1).latch = [.fail]) ∧
    ∃ w k p st, (sensing ready [okAns 0, .fail] 2 1).seq = .busy w k p ∧ (sensing ready [okAns 0, .fail] 2 1).latch = [.ok st, .fail] :=
  ⟨⟨_, _, _, _, rfl, rfl, by decide⟩, ⟨_, _, _, rfl, rfl⟩, _, _, _, _, rfl, rfl⟩

theorem witness_UnboundedPollHangs :
    decode (encode .readSensors) = .ok .readSensors ∧ ready.cfg.pollLimit = none ∧
    ({ sensing ready [okAns 0x01] 0 1 with script := [okAns 0x09, okAns 0x08] } : State).seq = .busy (encode .readSensors) 0 1 ∧
    (∃ st, (sensing ready [okAns 0x01] 0 1).latch = [.ok st] ∧ st.b0 &&& 0x09#8 ≠ 0#8) ∧
    (∀ a ∈ [okAns 0x09, okAns 0x08], ∃ d, a = .ok d ∧ d.b0 &&& 0x09#8 ≠ 0#8) ∧
    ({ sensing ready [okAns 0x01] 0 1 with script := [okAns 0x09, okAns 0x08] } : State).script = [okAns 0x09, okAns 0x08] ++ [] := by
  refine ⟨by decide, rfl, rfl, ⟨_, rfl, by decide⟩, ?_, rfl⟩
  intro a ha
  simp only [List.mem_cons, List.not_mem_nil, or_false] at ha
  rcases ha with rfl | rfl <;> exact ⟨_, rfl, by decide⟩

theorem witness_CheckedPrimitives :
    0 < 32 ∧ (-(2 ^ (32 - 1)) ≤ (-2147483648 : Int) ∧ (-2147483648 : Int) < 2 ^ (32 - 1)) ∧ 2 ^ (32 - 1) ≤ (2147483648 : Int) ∧
    (-2147483649 : Int) < -(2 ^ (32 - 1)) ∧ (-(2 ^ 63) ≤ (-(2 ^ 63) : Int) ∧ (-(2 ^ 63) : Int) < 2 ^ 63 ∧ (-1 : Int) ≠ 0) ∧
    ¬ ((-(2 ^ 63) : Int) = -(2 ^ 63) ∧ (1 : Int) = -1) := by decide

theorem witness_HumidityClampAndScaling :
    (0 : Int) ≤ 0 ∧ (0 : Int) ≤ 419430400 ∧ (419430400 : Int) ≤ 419430400 ∧ (-1 : Int) ≤ 0 ∧ (419430400 : Int) ≤ 419430401 := by decide

theorem witness_ReadSensorsCompletes :
    (∃ w k p st d, (sensing ready [okAns 0, .ok burst1] 2 1).seq = .busy w k p ∧ (sensing ready [okAns 0, .ok burst1] 2 1).latch = [.ok st, .ok d]) ∧
    ready.cfg.ovfPolicy = .wrap := ⟨⟨_, _, _, _, _, rfl, rfl⟩, rfl⟩

theorem witness_FaultPolicyStopsOrAgreesWithWrap :
    (∃ w k p st d, (sensing ready [okAns 0, .ok burst1] 2 1).seq = .busy w k p ∧ (sensing ready [okAns 0, .ok burst1] 2 1).latch = [.ok st, .ok d]) ∧
    compensate (params none .fault) { cal1 with digP1 := 1 } burst1 = none ∧ (compensate (params none .fault) cal1 burst1).isSome = true :=
  ⟨⟨_, _, _, _, _, rfl, rfl⟩, by decide, by decide⟩

theorem witness_TemperatureOverflowEvents :
    compTFine .fault { cal1 with digT1 := 0, digT2 := 32767 } (zext 0xFFFFF#20) = none ∧ compTFine .fault cal1 (zext 0xFFFFF#20) = some 960246 := by decide

/-- Program P3: dig_P1 = 0. -/
theorem witness_ZeroDenominatorIsReportedNotFaulted :
    (∃ w k p st d, (sensing { ready with cal := { cal1 with digP1 := 0 } } [okAns 0, .ok burst1] 2 1).seq = .busy w k p ∧
      (sensing { ready with cal := { cal1 with digP1 := 0 } } [okAns 0, .ok burst1] 2 1).latch = [.ok st, .ok d]) ∧
    ({ cal1 with digP1 := 0 } : Calibration).digP1 = 0#16 ∧ (compensate Params.default { cal1 with digP1 := 0 } burst1).isSome = true ∧
    (compensate Params.default cal1 burst1).isSome = true :=
  ⟨⟨_, _, _, _, _, rfl, rfl⟩, rfl, by decide, by decide⟩

theorem witness_ResultsDependOnTheirOwnBytes :
    (compensate Params.default cal1 burst1).isSome = true ∧ (compensate Params.default cal1 { burst1 with b6 := 0 }).isSome = true ∧
    (compensate Params.default cal1 { burst1 with b0 := 0 }).isSome = true ∧ burst1.b3 = ({ burst1 with b6 := 0 } : BurstData).b3 ∧
    burst1.b7 = ({ burst1 with b0 := 0 } : BurstData).b7 := by decide

end Sys2Proof.Tests
end

section
/-! The registers as an observer sees them, and the power-on state (10_state.md rules R33, R34, R38, R40 and R51). -/

namespace Sys2Proof.Machine

/-! An observed register shows no value exactly while its valid or written bit is clear. -/

@[simp] theorem State.tsel?_eq_none_iff (s : State) : s.tsel? = none ↔ s.tselValid = false := by
  simp [State.tsel?]

@[simp] theorem State.cal?_eq_none_iff (s : State) : s.cal? = none ↔ s.calWritten = false := by
  simp [State.cal?]

@[simp] theorem State.results?_eq_none_iff (s : State) : s.results? = none ↔ s.resultsWritten = false := by
  simp [State.results?]

@[simp] theorem State.rsp?_eq_none_iff (s : State) : s.rsp? = none ↔ s.rspWritten = false := by
  simp [State.rsp?]

/-- Settles O15: the given values are the fields of `State.reset`, and the registers rule R51 calls unwritten show no
value because their valid or written bits are clear there. -/
theorem powerOnState : Obligations.PowerOnState := by
  unfold Obligations.PowerOnState
  have tselUnwritten : State.reset.tsel? = none := (State.tsel?_eq_none_iff _).2 rfl
  have calUnwritten : State.reset.cal? = none := (State.cal?_eq_none_iff _).2 rfl
  have resultsUnwritten : State.reset.results? = none := (State.results?_eq_none_iff _).2 rfl
  have rspUnwritten : State.reset.rsp? = none := (State.rsp?_eq_none_iff _).2 rfl
  exact ⟨rfl, rfl, tselUnwritten, rfl, calUnwritten, rfl, rfl, rfl, rfl, resultsUnwritten, rspUnwritten, rfl⟩

end Sys2Proof.Machine
end

section
/-! What the decoder accepts is well-formed, and the words it refuses (30_encoding.md rules R101 to R104 and R109). -/

namespace Sys2Proof

open Sys2Proof.Safety

variable {w mask : CmdWord} {i j : Instr}

/-- What `reserving` accepts has its reserved bits clear. -/
theorem and_mask_eq_zero_of_reserving (h : reserving w mask i = .ok j) : w &&& mask = 0 := by
  unfold reserving at h
  split at h
  · assumption
  · cases h

/-- OP is what the top nibble's mask leaves of a word (rule R101). -/
theorem and_opMask (w : CmdWord) : w &&& 0xF0000000#32 = opOf w ++ 0#28 := by
  have hsplit : opOf w ++ w.extractLsb' 0 28 = w :=
    (BitVec.extractLsb'_append_extractLsb'_eq_extractLsb' (by decide)).trans BitVec.extractLsb'_eq_self
  calc w &&& 0xF0000000#32 = (opOf w ++ w.extractLsb' 0 28) &&& (BitVec.allOnes 4 ++ 0#28) := by rw [hsplit]; rfl
    _ = opOf w ++ 0#28 := by rw [BitVec.and_append, BitVec.and_allOnes, BitVec.and_zero]

/-- A word with opcode `op` and the bits of `mask` clear matches the row that `op` and `mask` make in the opcode table. -/
theorem and_rowMask {op : Nat} (hop : (opOf w).toNat = op) (hmask : w &&& mask = 0) :
    w &&& (0xF0000000#32 ||| mask) = BitVec.ofNat 4 op ++ 0#28 := by
  rw [BitVec.and_or_distrib_left, hmask, and_opMask, ← hop, BitVec.ofNat_toNat, BitVec.setWidth_eq]
  exact BitVec.or_zero

/-- Clear bits under a mask are clear under every mask it covers. -/
theorem and_eq_zero_of_submask {sub : CmdWord} (hmask : w &&& mask = 0) (hsub : mask &&& sub = sub) : w &&& sub = 0 := by
  rw [← hsub, ← BitVec.and_assoc, hmask]
  exact BitVec.zero_and

/-- A field that the mask covers is 0 where the bits under the mask are. -/
theorem extractLsb'_eq_zero_of_mask {lo n : Nat} (hmask : w &&& mask = 0) (hfield : mask.extractLsb' lo n = BitVec.allOnes n) :
    w.extractLsb' lo n = 0#n := by
  calc w.extractLsb' lo n = (w &&& mask).extractLsb' lo n := by
        rw [BitVec.extractLsb'_and, hfield, BitVec.and_allOnes]
    _ = 0#n := by rw [hmask]; exact BitVec.extractLsb'_zero

/-- Every layout but BEGIN's accepts well-formed words only: the row of its opcode and mask is in the table. -/
theorem wordWellFormed_of_reserving {op : Nat} (hop : (opOf w).toNat = op) (hnotBegin : op ≠ 0)
    (hrow : (BitVec.ofNat 4 op ++ 0#28, 0xF0000000#32 ||| mask) ∈ opcodeRows) (h : reserving w mask i = .ok j) :
    wordWellFormed w := by
  refine ⟨⟨_, hrow, and_rowMask hop (and_mask_eq_zero_of_reserving h)⟩, fun hbegin => absurd ?_ hnotBegin⟩
  rw [← hop, opOf, hbegin]
  rfl

/-- BEGIN's row for a mask that covers bits [25:24]. -/
theorem matches_beginRow (hop : (opOf w).toNat = 0) (hmask : w &&& mask = 0) (hcovers : mask &&& 0x03000000#32 = 0x03000000#32) :
    ∃ row ∈ opcodeRows, w &&& row.2 = row.1 :=
  ⟨_, List.mem_cons_self, and_rowMask hop (and_eq_zero_of_submask hmask hcovers)⟩

/-- BEGIN's layout accepts well-formed words only: for each TKIND its mask covers bits [25:24] and the payload bits that
the kind reserves (rule R103). -/
theorem wordWellFormed_of_decodeBegin (hop : (opOf w).toNat = 0) (h : decodeBegin w = .ok i) : wordWellFormed w := by
  simp only [decodeBegin] at h
  split at h
  · next hkind =>
    have hmask := and_mask_eq_zero_of_reserving h
    exact ⟨matches_beginRow hop hmask (by decide),
      fun _ => .inl ⟨BitVec.eq_of_toNat_eq hkind, extractLsb'_eq_zero_of_mask hmask (by decide)⟩⟩
  · next hkind =>
    have hmask := and_mask_eq_zero_of_reserving h
    exact ⟨matches_beginRow hop hmask (by decide),
      fun _ => .inr (.inl ⟨BitVec.eq_of_toNat_eq hkind, extractLsb'_eq_zero_of_mask hmask (by decide)⟩)⟩
  · next hkind =>
    exact ⟨matches_beginRow hop (and_mask_eq_zero_of_reserving h) (by decide),
      fun _ => .inr (.inr (BitVec.eq_of_toNat_eq hkind))⟩
  · cases h

/-- A word that decodes is well-formed. -/
theorem wordWellFormed_of_decode (h : decode w = .ok i) : wordWellFormed w := by
  unfold decode at h
  split at h
  case h_1 hop => exact wordWellFormed_of_decodeBegin hop h
  case h_13 => cases h
  all_goals next hop => exact wordWellFormed_of_reserving hop (by decide) (by decide) h

/-- The decoder refuses a word that is not well-formed. -/
theorem decode_eq_error_of_not_wordWellFormed (h : ¬ wordWellFormed w) : ∃ e, decode w = .error e := by
  rcases hd : decode w with e | i
  · exact ⟨e, rfl⟩
  · exact absurd (wordWellFormed_of_decode hd) h

end Sys2Proof

namespace Sys2Proof.Machine

open Sys2Proof.Safety

variable {s : State} {w : CmdWord} {ws : List CmdWord}

/-- An idle engine runs the first word the host presents, on the state in which that word is taken. -/
theorem step_of_idle (hseq : s.seq = .idle) (hwords : s.hostWords = w :: ws) :
    step s = runWord w { s with hostWords := ws } := by
  have htake : s.take = some (w, { s with hostWords := ws }) := by simp [State.take, hseq, hwords]
  simp [step, hseq, htake]

/-- A word the decoder refuses raises ILLEGAL_COMMAND. -/
theorem runWord_of_error {e : DecodeError} (h : decode w = .error e) : runWord w s = .next (s.raise .illegalCommand) := by
  simp [runWord, h]

/-- ILLEGAL_COMMAND's status code is 6 (rule R260), and raising it changes what `failed` lists and nothing else. -/
theorem raise_illegalCommand (s : State) : s.raise .illegalCommand = failed s 6 := rfl

/-- Settles O7: the decoder refuses the word, so the step raises ILLEGAL_COMMAND on the state without it. -/
theorem illFormedWordIsIllegalCommand : Obligations.IllFormedWordIsIllegalCommand := by
  unfold Obligations.IllFormedWordIsIllegalCommand
  intro s w ws hseq hwords hill
  obtain ⟨e, he⟩ := decode_eq_error_of_not_wordWellFormed hill
  rw [step_of_idle hseq hwords, runWord_of_error he, raise_illegalCommand]

end Sys2Proof.Machine
end

section
/-! What the shared operations of the commands answer, one equation a case (20_memory.md rule R72, 30_encoding.md rules
R108 and R114, 60_exceptions.md rules R267 and R272). -/

namespace Sys2Proof.Machine

open Sys2Proof.Config Sys2Proof.Safety

variable {s : State} {i : Instr} {body : State → Result} {w : CmdWord} {k p : Nat}

/-! ### Dispatch -/

/-- Before BEGIN a command ends NOT_READY (rule R267). -/
theorem dispatched_of_uninitialized (hseq : s.seq = .idle) (heng : s.engState = .uninitialized) :
    dispatched i s body = .next (s.raise .notReady) := by
  simp [dispatched, hseq, heng]

/-- A Ready engine starts the command. -/
theorem dispatched_of_ready (hseq : s.seq = .idle) (heng : s.engState = .ready) : dispatched i s body = body (s.start i) := by
  simp [dispatched, hseq, heng]

/-- An executing command goes on. -/
theorem dispatched_of_busy (hseq : s.seq = .busy w k p) : dispatched i s body = body s := by
  simp [dispatched, hseq]

/-! ### The end of a command and a transaction, as the statements write them -/

/-- Raising an error changes what `failed` lists and nothing else. -/
theorem raise_eq_failed (s : State) (e : Status) : s.raise e = failed s e.code := rfl

/-- An error raised by a command that has just started leaves no trace of the start. -/
theorem start_raise (s : State) (i : Instr) (e : Status) : (s.start i).raise e = failed s e.code := rfl

/-- So does its OK response without flags. -/
theorem start_respond (s : State) (i : Instr) (v0 v1 v2 : Value) :
    (s.start i).respond noFlags v0 v1 v2 = ended s 0 0 v0 v1 v2 := rfl

/-- The first transaction of a command that has just started. -/
theorem start_transact (s : State) (i : Instr) (sel : Selector) (t : Transaction) :
    (s.start i).transact sel t = asked s sel t [] (.busy (encode i) 1 0) := rfl

/-- A further transaction of an executing command: `step` moves on by one, the answers received so far are kept. -/
theorem transact_of_busy (hseq : s.seq = .busy w k p) (sel : Selector) (t : Transaction) :
    s.transact sel t = asked s sel t s.latch (.busy w (k + 1) p) := by
  rw [State.transact, hseq]
  rfl

/-! ### The two register sequences -/

variable {addr : Byte} {modify : Byte → Byte} {word : CmdWord} {commit : State → Byte → State} {value : Byte → Value}

/-- A command whose meaning is a dispatched getter has the shape of a register read: each clause is the step of
`readRegister` for the answers received so far. -/
theorem isRegisterRead_of_exec (hword : encode i = word) (hcommit : ∀ s r, s.setShadow addr r = commit s r)
    (hexec : ∀ s, exec i s = dispatched i s fun s => readBack s addr value) : IsRegisterRead i word addr commit value := by
  refine ⟨hword, fun s hseq heng => ?notReady, fun s hseq heng => ?read, fun s w k p hseq hlatch => ?readFailed,
    fun s w k p d hseq hlatch => ?completed⟩
  case notReady => rw [hexec, dispatched_of_uninitialized hseq heng, raise_eq_failed]; rfl
  case read =>
    rw [hexec, dispatched_of_ready hseq heng, ← start_transact]
    rfl
  case readFailed =>
    rw [hexec, dispatched_of_busy hseq, readBack, hlatch]
    rfl
  case completed =>
    rw [hexec, dispatched_of_busy hseq, readBack, hlatch, ← hcommit]
    rfl

/-- A command whose meaning is a dispatched read-modify-write has its shape: each clause is the step of
`modifyRegister` for the answers received so far. -/
theorem isReadModifyWrite_of_exec (hword : encode i = word)
    (hexec : ∀ s, exec i s = dispatched i s fun s =>
      s.proceed s.tsel (modifyRegister addr modify s.latch) fun v s => (commit s v).respond noFlags 0 0 0) :
    IsReadModifyWrite i word addr modify commit := by
  refine ⟨hword, fun s hseq heng => ?notReady, fun s hseq heng => ?read, fun s w k p hseq hlatch => ?readFailed,
    fun s w k p d hseq hlatch => ?write, fun s w k p d hseq hlatch => ?writeFailed, fun s w k p d e hseq hlatch => ?completed⟩
  case notReady => rw [hexec, dispatched_of_uninitialized hseq heng, raise_eq_failed]; rfl
  case read =>
    rw [hexec, dispatched_of_ready hseq heng, ← start_transact]
    rfl
  case write =>
    rw [hexec, dispatched_of_busy hseq, ← hlatch, ← transact_of_busy hseq, hlatch]
    rfl
  all_goals
    rw [hexec, dispatched_of_busy hseq, hlatch]
    rfl

/-- A command whose meaning is a dispatched setter is a read-modify-write that commits the register's shadow. -/
theorem isReadModifyWrite_of_writeField (hword : encode i = word) (hcommit : ∀ s v, s.setShadow addr v = commit s v)
    (hexec : ∀ s, exec i s = dispatched i s fun s => writeField s addr modify) : IsReadModifyWrite i word addr modify commit :=
  isReadModifyWrite_of_exec hword fun s => by simp only [hexec, writeField, hcommit]

end Sys2Proof.Machine
end

section
/-! The configuration commands (41_configuration.md rules R160 to R168). -/

namespace Sys2Proof.Machine

open Sys2Proof.Config Sys2Proof.Safety

/-! ### The words (30_encoding.md rule R104) -/

theorem encode_setMode (mode : BitVec 2) : encode (.setMode mode) = 0x20000000#32 ||| mode.setWidth 32 := by
  revert mode; decide

/-- `base` is the word's opcode and SENSOR. -/
theorem encode_setOsr {sensor : BitVec 2} {base : CmdWord} (hbase : 0x30000000#32 ||| (sensor.setWidth 32 <<< 4) = base)
    (rate : BitVec 3) : encode (.setOsr sensor rate) = base ||| rate.setWidth 32 := by
  subst hbase; revert sensor rate; decide

/-- `base` is the word's opcode and SENSOR. -/
theorem encode_getOsr {sensor : BitVec 2} {base : CmdWord} (hbase : 0x40000000#32 ||| (sensor.setWidth 32 <<< 4) = base)
    (actual : BitVec 1) : encode (.getOsr actual sensor) = base ||| (actual.setWidth 32 <<< 8) := by
  subst hbase; revert actual sensor; decide

theorem encode_setIir (v : BitVec 3) : encode (.setIir v) = 0x60000000#32 ||| v.setWidth 32 := by
  revert v; decide

theorem encode_setStandby (v : BitVec 3) : encode (.setStandby v) = 0x80000000#32 ||| v.setWidth 32 := by
  revert v; decide

/-! ### The fields of a register byte -/

/-- Replacing a field keeps the other bits by the mask that rules R162, R166 and R168 print for its position. -/
theorem withField_eq {shift : Nat} {keep : Byte} (hkeep : ~~~(0x7#8 <<< shift) = keep) (v : BitVec 3) :
    withField shift v = fun r => (r &&& keep) ||| (v.setWidth 8 <<< shift) := by
  subst hkeep; rfl

theorem withField_zero (v : BitVec 3) : withField 0 v = fun r => (r &&& 0xF8#8) ||| v.setWidth 8 := by
  simp only [withField_eq (show ~~~(0x7#8 <<< 0) = 0xF8#8 by decide), BitVec.shiftLeft_zero]

theorem withField_two (v : BitVec 3) : withField 2 v = fun r => (r &&& 0xE3#8) ||| (v.setWidth 8 <<< 2) :=
  withField_eq (by decide) v

theorem withField_five (v : BitVec 3) : withField 5 v = fun r => (r &&& 0x1F#8) ||| (v.setWidth 8 <<< 5) :=
  withField_eq (by decide) v

/-- A 3-bit field as a response value: shifted down and masked (rules R165 and R167). -/
theorem setWidth_fieldOf (shift : Nat) (r : Byte) : (fieldOf shift r).setWidth 32 = (r.setWidth 32 >>> shift) &&& 7#32 := by
  apply BitVec.eq_of_toNat_eq
  have hbyte : r.toNat % 2 ^ 32 = r.toNat := Nat.mod_eq_of_lt (r.isLt.trans (by decide))
  have hfield : r.toNat >>> shift % 2 ^ 3 % 2 ^ 32 = r.toNat >>> shift % 2 ^ 3 :=
    Nat.mod_eq_of_lt ((Nat.mod_lt _ (by decide)).trans (by decide))
  have hmask : r.toNat >>> shift &&& 7 = r.toNat >>> shift % 2 ^ 3 := Nat.and_two_pow_sub_one_eq_mod _ 3
  rw [BitVec.toNat_setWidth, fieldOf, BitVec.extractLsb'_toNat, hfield, BitVec.toNat_and, BitVec.toNat_ushiftRight,
    BitVec.toNat_setWidth, hbyte]
  exact hmask.symm

/-! ### Operands -/

/-- A sensor has no oversampling field exactly where SENSOR is 3 (rule R106). -/
theorem osrField_eq_none_iff (sensor : BitVec 2) : osrField sensor = none ↔ 3 ≤ sensor.toNat := by
  revert sensor; decide

theorem rateOk_eq_true_iff (rate : BitVec 3) : rateOk rate = true ↔ rate.toNat < 6 := decide_eq_true_iff

theorem rateOk_eq_false_iff (rate : BitVec 3) : rateOk rate = false ↔ 6 ≤ rate.toNat := by
  simp [rateOk]

/-- Settles O39: entry by entry over the eight codes. -/
theorem oversamplingTable : Obligations.OversamplingTable := by
  unfold Obligations.OversamplingTable
  decide

/-- The value of GET_OSR with the table written apart from the machine's. -/
theorem osrValue_eq (actual : BitVec 1) (code : BitVec 3) :
    osrValue actual code = if actual = 1 then BitVec.ofNat 32 (multiplier code) else code.setWidth 32 := by
  rw [osrValue, oversamplingTable]

/-! ### GET_MODE and SET_MODE -/

/-- GET_MODE answers MODE_CACHE once dispatched (rule R160). -/
theorem exec_getMode (s : State) :
    exec .getMode s = dispatched .getMode s fun s => .next (s.respond noFlags (s.modeCache.setWidth 32) 0 0) := rfl

/-- Settles O34: dispatch lets GET_MODE answer on a Ready engine and refuses it before BEGIN. -/
theorem getModeReturnsTheCache : Obligations.GetModeReturnsTheCache := by
  unfold Obligations.GetModeReturnsTheCache
  refine ⟨by decide, fun s hseq => ⟨fun heng => ?ready, fun heng => ?notReady⟩⟩
  case ready => rw [exec_getMode, dispatched_of_ready hseq heng, start_respond]; rfl
  case notReady => rw [exec_getMode, dispatched_of_uninitialized hseq heng, raise_eq_failed]; rfl

/-- Settles O35: SET_MODE is a dispatched read-modify-write of ctrl_meas. -/
theorem setModeWritesTheModeBits : Obligations.SetModeWritesTheModeBits := by
  unfold Obligations.SetModeWritesTheModeBits
  exact fun mode => isReadModifyWrite_of_exec (encode_setMode mode) fun _ => rfl

/-! ### SET_OSR and GET_OSR -/

/-- SET_OSR with valid operands writes the sensor's field. -/
theorem exec_setOsr_of_valid {sensor : BitVec 2} {rate : BitVec 3} {addr : Byte} {shift : Nat}
    (hfield : osrField sensor = some (addr, shift)) (hrate : rate.toNat < 6) (s : State) :
    exec (.setOsr sensor rate) s = dispatched (.setOsr sensor rate) s fun s => writeField s addr (withField shift rate) := by
  simp only [exec, execSetOsr, hfield, (rateOk_eq_true_iff rate).2 hrate]

/-- SET_OSR with an invalid operand is refused once dispatched. -/
theorem exec_setOsr_of_invalid {sensor : BitVec 2} {rate : BitVec 3} (h : 3 ≤ sensor.toNat ∨ 6 ≤ rate.toNat) (s : State) :
    exec (.setOsr sensor rate) s = dispatched (.setOsr sensor rate) s fun s => .next (s.raise .invalidParameter) := by
  cases hfield : osrField sensor with
  | none => simp only [exec, execSetOsr, hfield]
  | some field =>
    have hsensor : ¬ 3 ≤ sensor.toNat := by simp [← osrField_eq_none_iff, hfield]
    simp only [exec, execSetOsr, hfield, (rateOk_eq_false_iff rate).2 (h.resolve_left hsensor)]

/-- GET_OSR of a sensor that has a field reads it back. -/
theorem exec_getOsr_of_valid {sensor : BitVec 2} {addr : Byte} {shift : Nat} (actual : BitVec 1)
    (hfield : osrField sensor = some (addr, shift)) (s : State) :
    exec (.getOsr actual sensor) s =
      dispatched (.getOsr actual sensor) s fun s => readBack s addr fun r => osrValue actual (fieldOf shift r) := by
  simp only [exec, execGetOsr, hfield]

/-- GET_OSR of SENSOR 3 is refused once dispatched. -/
theorem exec_getOsr_of_invalid {sensor : BitVec 2} (actual : BitVec 1) (h : 3 ≤ sensor.toNat) (s : State) :
    exec (.getOsr actual sensor) s = dispatched (.getOsr actual sensor) s fun s => .next (s.raise .invalidParameter) := by
  simp only [exec, execGetOsr, (osrField_eq_none_iff sensor).2 h]

/-- Settles O36: valid operands make SET_OSR a setter of the sensor's field; with an invalid one the engine raises
INVALID_PARAMETER on the state it started in. -/
theorem setOsrWritesOneField : Obligations.SetOsrWritesOneField := by
  unfold Obligations.SetOsrWritesOneField
  simp only [← withField_zero, ← withField_two, ← withField_five]
  refine fun rate => ⟨fun hrate => ⟨?temperature, ?humidity, ?pressure⟩, fun sensor s hseq heng hinvalid => ?refused⟩
  case temperature =>
    have hfield : osrField 0 = some (0xF4, 5) := rfl
    exact isReadModifyWrite_of_writeField (encode_setOsr (by decide) rate) State.setShadow_ctrlMeas
      (exec_setOsr_of_valid hfield hrate)
  case humidity =>
    have hfield : osrField 1 = some (0xF2, 0) := rfl
    exact isReadModifyWrite_of_writeField (encode_setOsr (by decide) rate) State.setShadow_ctrlHum
      (exec_setOsr_of_valid hfield hrate)
  case pressure =>
    have hfield : osrField 2 = some (0xF4, 2) := rfl
    exact isReadModifyWrite_of_writeField (encode_setOsr (by decide) rate) State.setShadow_ctrlMeas
      (exec_setOsr_of_valid hfield hrate)
  case refused =>
    rw [exec_setOsr_of_invalid hinvalid, dispatched_of_ready hseq heng, start_raise]
    rfl

/-- Settles O38: GET_OSR of a sensor that has a field is a getter of it; SENSOR 3 is refused on the state it started in. -/
theorem getOsrReadsBackACode : Obligations.GetOsrReadsBackACode := by
  unfold Obligations.GetOsrReadsBackACode
  simp only [← osrValue_eq]
  refine fun actual => ⟨?temperature, ?humidity, ?pressure, fun s hseq heng => ?refused⟩
  case temperature =>
    have hfield : osrField 0 = some (0xF4, 5) := rfl
    exact isRegisterRead_of_exec (encode_getOsr (by decide) actual) State.setShadow_ctrlMeas (exec_getOsr_of_valid actual hfield)
  case humidity =>
    have hfield : osrField 1 = some (0xF2, 0) := rfl
    exact isRegisterRead_of_exec (encode_getOsr (by decide) actual) State.setShadow_ctrlHum (exec_getOsr_of_valid actual hfield)
  case pressure =>
    have hfield : osrField 2 = some (0xF4, 2) := rfl
    exact isRegisterRead_of_exec (encode_getOsr (by decide) actual) State.setShadow_ctrlMeas (exec_getOsr_of_valid actual hfield)
  case refused =>
    rw [exec_getOsr_of_invalid actual (by decide), dispatched_of_ready hseq heng, start_raise]
    rfl

/-! ### The fields of config -/

/-- Settles O40: both are getters of config, and their field is the shifted and masked byte. -/
theorem configGettersReadTheirField : Obligations.ConfigGettersReadTheirField := by
  unfold Obligations.ConfigGettersReadTheirField
  simp only [← setWidth_fieldOf]
  exact ⟨isRegisterRead_of_exec (by decide) State.setShadow_config fun _ => rfl,
    isRegisterRead_of_exec (by decide) State.setShadow_config fun _ => rfl⟩

/-- Settles O41: both are setters of config, each with its field's keep mask. -/
theorem configSettersWriteTheirField : Obligations.ConfigSettersWriteTheirField := by
  unfold Obligations.ConfigSettersWriteTheirField
  simp only [← withField_two, ← withField_five]
  exact fun v => ⟨isReadModifyWrite_of_writeField (encode_setIir v) State.setShadow_config fun _ => rfl,
    isReadModifyWrite_of_writeField (encode_setStandby v) State.setShadow_config fun _ => rfl⟩

end Sys2Proof.Machine
end

section
/-! The measurement-time estimate (42_measurement_time.md rules R190 and R191). -/

namespace Sys2Proof.Machine

open Sys2Proof.Config Sys2Proof.Safety

theorem encode_measTime (prec : BitVec 1) : encode (.measTime prec) = 0x90000000#32 ||| prec.setWidth 32 := by
  revert prec; decide

/-- SB_US is the exact table of rule R169, entry by entry. -/
theorem standbyMicros_eq_standbyUs (code : BitVec 3) : standbyMicros code = standbyUs code := by
  revert code; decide

/-- The temperature term of the fixed cost: it counts exactly where FIXED_COST_INCLUDES_T is set and the sensor is
enabled (rule R190). -/
theorem ite_enabled (charged : Bool) (code : BitVec 3) :
    (if charged then enabled code else 0) = if charged = true ∧ code ≠ 0#3 then 1 else 0 := by
  cases charged with
  | false => simp
  | true => simp [enabled]

/-- The estimate with the constants of rule R191 and the tables of rules R164 and R169 written apart from the
machine's. -/
theorem measMicros_eq (cfg : Params) (ctrlMeas ctrlHum config : Byte) (prec : BitVec 1) :
    measMicros cfg ctrlMeas ctrlHum config prec =
      (if prec = 0 then 1000 else 1250)
        + (if prec = 0 then 2000 else 2300) *
          (multiplier (ctrlMeas.extractLsb' 5 3) + multiplier (ctrlMeas.extractLsb' 2 3) + multiplier (ctrlHum.extractLsb' 0 3))
        + (if prec = 0 then 500 else 575) *
          ((if ctrlMeas.extractLsb' 2 3 = 0#3 then 0 else 1) + (if ctrlHum.extractLsb' 0 3 = 0#3 then 0 else 1)
            + (if cfg.fixedCostIncludesT = true ∧ ctrlMeas.extractLsb' 5 3 ≠ 0#3 then 1 else 0))
        + (if cfg.timeIncludesStandby = true then standbyUs (config.extractLsb' 5 3) else 0) := by
  have hmult : osrMult = multiplier := funext oversamplingTable
  rw [← hmult, ← standbyMicros_eq_standbyUs, ← ite_enabled]
  rfl

/-- MEAS_TIME answers the estimate once dispatched (rule R190). -/
theorem exec_measTime (prec : BitVec 1) (s : State) :
    exec (.measTime prec) s = dispatched (.measTime prec) s fun s =>
      .next (s.respond noFlags (BitVec.ofNat 32 (measMicros s.cfg s.shCtrlMeas s.shCtrlHum s.shConfig prec)) 0 0) := rfl

/-- Settles O44: dispatch lets MEAS_TIME answer on a Ready engine and refuses it before BEGIN; starting the command
leaves the parameters and shadows as they were, so the estimate is that of `s`. -/
theorem measTimeReturnsTheEstimate : Obligations.MeasTimeReturnsTheEstimate := by
  unfold Obligations.MeasTimeReturnsTheEstimate
  simp only [← measMicros_eq]
  refine fun prec => ⟨encode_measTime prec, fun s hseq => ⟨fun heng => ?notReady, fun heng => ?ready⟩⟩
  case notReady => rw [exec_measTime, dispatched_of_uninitialized hseq heng, raise_eq_failed]; rfl
  case ready => rw [exec_measTime, dispatched_of_ready hseq heng, start_respond]; rfl

end Sys2Proof.Machine
end

section
/-! What ends a command with an error (60_exceptions.md rules R265 to R267). -/

namespace Sys2Proof.Machine

open Sys2Proof.Config Sys2Proof.Safety

variable {s t u : State} {i : Instr} {P : Status → Prop}

/-! ### NOT_READY -/

/-- Every command but BEGIN goes through dispatch (rule R114). -/
theorem exec_eq_dispatched (hbegin : ∀ kind payload, i ≠ .begin kind payload) : ∃ body, ∀ s, exec i s = dispatched i s body := by
  cases i with
  | begin kind payload => exact absurd rfl (hbegin kind payload)
  | _ =>
    simp only [exec, execGetMode, execSetMode, execSetOsr, execGetOsr, execGetIir, execSetIir, execGetStandby, execSetStandby,
      execMeasTime, execReadSensors, execReset]
    exact ⟨_, fun _ => rfl⟩

/-- Settles O12: the command goes through dispatch, which raises NOT_READY before BEGIN. -/
theorem notReadyUntilBegin : Obligations.NotReadyUntilBegin := by
  unfold Obligations.NotReadyUntilBegin
  intro i s hbegin hseq heng
  obtain ⟨body, hexec⟩ := exec_eq_dispatched hbegin
  rw [hexec, dispatched_of_uninitialized hseq heng, raise_eq_failed]
  rfl

/-! ### The status a step ends its command with -/

/-- Where `t` is idle, as it is after a step that ends its command, the status in its response satisfies `P`. -/
def EndsWithin (P : Status → Prop) (t : State) : Prop := t.seq = .idle → ∃ e : Status, t.rsp.status = e.code ∧ P e

/-- A command that has just started is busy. -/
theorem start_seq_ne_idle (s : State) (i : Instr) : (s.start i).seq ≠ .idle := Seq.noConfusion

theorem endsWithin_of_busy (hseq : t.seq ≠ .idle) : EndsWithin P t := fun hidle => absurd hidle hseq

theorem endsWithin_transact (hseq : u.seq ≠ .idle) (sel : Selector) (tx : Transaction) : EndsWithin P (u.transact sel tx) :=
  endsWithin_of_busy (advance_ne_idle hseq)

theorem endsWithin_poll (hseq : u.seq ≠ .idle) : EndsWithin P u.poll := endsWithin_of_busy (polled_ne_idle _ hseq)

theorem endsWithin_resetWrite (hseq : u.seq ≠ .idle) : EndsWithin P (resetWrite u) := by
  rcases resetWrite_cases u with ⟨_, hwrite⟩ | ⟨_, _, hwrite⟩ <;> rw [hwrite]
  all_goals exact endsWithin_of_busy (advance_ne_idle hseq)

theorem endsWithin_raise {e : Status} (he : P e) : EndsWithin P (u.raise e) := fun _ => ⟨e, rfl, he⟩

theorem endsWithin_respond (hok : P .ok) (flags : BitVec 4) (v0 v1 v2 : Value) : EndsWithin P (u.respond flags v0 v1 v2) :=
  fun _ => ⟨.ok, rfl, hok⟩

/-- A dispatched command ends NOT_READY or as its body does, on a busy state with the same parameters. -/
theorem endsWithin_dispatched {body : State → Result} (hnotReady : P .notReady)
    (hbody : ∀ u, u.seq ≠ .idle → u.cfg = s.cfg → body u = .next t → EndsWithin P t) (h : dispatched i s body = .next t) :
    EndsWithin P t := by
  rcases dispatched_cases h with ⟨_, _, h⟩ | ⟨_, _, rfl⟩ | ⟨hseq, h⟩
  · exact hbody _ (start_seq_ne_idle s i) rfl h
  · exact endsWithin_raise hnotReady
  · exact hbody s hseq rfl h

theorem endsWithin_dispatched_raise {e : Status} (hnotReady : P .notReady) (he : P e)
    (h : dispatched i s (fun s => .next (s.raise e)) = .next t) : EndsWithin P t :=
  endsWithin_dispatched hnotReady (fun _ _ _ hu => Host.Outcome.next.inj hu ▸ endsWithin_raise he) h

theorem endsWithin_dispatched_respond {value : State → Value} (hnotReady : P .notReady) (hok : P .ok)
    (h : dispatched i s (fun s => .next (s.respond noFlags (value s) 0 0)) = .next t) : EndsWithin P t :=
  endsWithin_dispatched hnotReady (fun _ _ _ hu => Host.Outcome.next.inj hu ▸ endsWithin_respond hok _ _ _ _) h

theorem endsWithin_readBack {addr : Byte} {value : Byte → Value} (hnotReady : P .notReady) (hok : P .ok)
    (hfail : P .busFailure) (h : dispatched i s (fun s => readBack s addr value) = .next t) : EndsWithin P t := by
  refine endsWithin_dispatched hnotReady (fun u hseq _ hu => ?_) h
  rcases readBack_cases hu with ⟨_, rfl⟩ | ⟨_, rfl⟩ | ⟨_, _, _, rfl⟩
  · exact endsWithin_transact hseq _ _
  · exact endsWithin_raise hfail
  · exact endsWithin_respond hok _ _ _ _

theorem endsWithin_writeField {addr : Byte} {modify : Byte → Byte} (hnotReady : P .notReady) (hok : P .ok)
    (hfail : P .busFailure) (h : dispatched i s (fun s => writeField s addr modify) = .next t) : EndsWithin P t := by
  refine endsWithin_dispatched hnotReady (fun u hseq _ hu => ?_) h
  rcases writeField_cases hu with ⟨_, rfl⟩ | ⟨_, _, rfl⟩ | ⟨_, rfl⟩ | ⟨_, _, _, _, rfl⟩
  · exact endsWithin_transact hseq _ _
  · exact endsWithin_transact hseq _ _
  · exact endsWithin_raise hfail
  · exact endsWithin_respond hok _ _ _ _

/-! ### What INVALID_PARAMETER and TIMEOUT need -/

/-- Rule R265's three cases. -/
def refusesOperands (s : State) : Instr → Prop
  | .setOsr sensor rate => 3 ≤ sensor.toNat ∨ 6 ≤ rate.toNat
  | .getOsr _ sensor => 3 ≤ sensor.toNat
  | .begin kind payload => s.tselValid = true ∧ (⟨kind, payload⟩ : Selector) ≠ s.tsel
  | _ => False

/-- What rules R265 and R266 ask where a step of `i` from `s` ends the command with a status; of a status other than
INVALID_PARAMETER and TIMEOUT they ask nothing. -/
def mayEndWith (i : Instr) (s : State) : Status → Prop
  | .invalidParameter => refusesOperands s i
  | .timeout => s.cfg.pollLimit ≠ none
  | _ => True

/-- TIMEOUT needs a limit that the poll count can reach. -/
theorem pollLimit_ne_none_of_reached {limit : Option Nat} {polls : Nat} (h : pollLimitReached limit polls = true) :
    limit ≠ none := by
  rintro rfl
  simp [pollLimitReached] at h

theorem readSensors_endsWithin (h : execReadSensors s = .next t) : EndsWithin (mayEndWith .readSensors s) t := by
  refine endsWithin_dispatched trivial (fun u hseq hcfg hu => ?_) h
  rcases sensorsBody_cases hu with ⟨_, rfl⟩ | ⟨_, rfl⟩ | ⟨_, _, _, hlimit, rfl⟩ | ⟨_, _, _, _, rfl⟩ | ⟨_, _, _, rfl⟩ |
    ⟨_, _, _, rfl⟩ | ⟨_, _, _, _, _, rfl⟩ | ⟨_, _, _, _, _, _, rfl⟩
  · exact endsWithin_poll hseq
  · exact endsWithin_raise trivial
  · exact endsWithin_raise (show s.cfg.pollLimit ≠ none from hcfg ▸ pollLimit_ne_none_of_reached hlimit)
  · exact endsWithin_poll hseq
  · exact endsWithin_transact hseq _ _
  · exact endsWithin_raise trivial
  · exact endsWithin_raise trivial
  · exact endsWithin_respond trivial _ _ _ _

theorem begin_endsWithin {kind : BitVec 2} {payload : BitVec 24} (h : execBegin kind payload s = .next t) :
    EndsWithin (mayEndWith (.begin kind payload) s) t := by
  rcases execBegin_cases h with ⟨_, hvalid, hsel, rfl⟩ | ⟨_, _, rfl⟩ | ⟨hseq, hbody⟩
  · exact endsWithin_raise ⟨hvalid, hsel⟩
  · exact endsWithin_transact (u := (s.start _).dropReady) (start_seq_ne_idle s _) _ _
  · rcases beginBody_cases hbody with ⟨_, _, rfl⟩ | rfl | rfl | ⟨_, _, rfl⟩
    · exact endsWithin_transact hseq _ _
    · exact endsWithin_raise trivial
    · exact endsWithin_raise trivial
    · exact endsWithin_respond trivial _ _ _ _

theorem reset_endsWithin (h : execReset s = .next t) : EndsWithin (mayEndWith .reset s) t := by
  rcases execReset_cases h with ⟨_, _, rfl⟩ | ⟨_, _, rfl⟩ |
    ⟨hseq, ⟨_, rfl⟩ | ⟨_, _, _, rfl⟩ | rfl | rfl | ⟨_, _, rfl⟩⟩
  · exact endsWithin_resetWrite (start_seq_ne_idle _ _)
  · exact endsWithin_raise trivial
  · exact endsWithin_resetWrite hseq
  · exact endsWithin_transact hseq _ _
  · exact endsWithin_raise trivial
  · exact endsWithin_raise trivial
  · exact endsWithin_respond trivial _ _ _ _

theorem setMode_endsWithin {mode : BitVec 2} (h : execSetMode mode s = .next t) :
    EndsWithin (mayEndWith (.setMode mode) s) t := by
  rcases execSetMode_cases h with ⟨_, _, rfl⟩ | ⟨_, _, rfl⟩ |
    ⟨hseq, ⟨_, rfl⟩ | ⟨_, _, rfl⟩ | ⟨_, rfl⟩ | ⟨_, _, _, _, rfl⟩⟩
  · exact endsWithin_transact (start_seq_ne_idle _ _) _ _
  · exact endsWithin_raise trivial
  · exact endsWithin_transact hseq _ _
  · exact endsWithin_transact hseq _ _
  · exact endsWithin_raise trivial
  · exact endsWithin_respond trivial _ _ _ _

/-- A sensor below 3 has an oversampling field. -/
theorem exists_osrField {sensor : BitVec 2} (h : ¬ 3 ≤ sensor.toNat) : ∃ addr shift, osrField sensor = some (addr, shift) := by
  obtain ⟨⟨addr, shift⟩, hfield⟩ := Option.ne_none_iff_exists'.1 (mt (osrField_eq_none_iff sensor).1 h)
  exact ⟨addr, shift, hfield⟩

theorem setOsr_endsWithin {sensor : BitVec 2} {rate : BitVec 3} (h : exec (.setOsr sensor rate) s = .next t) :
    EndsWithin (mayEndWith (.setOsr sensor rate) s) t := by
  by_cases hinvalid : 3 ≤ sensor.toNat ∨ 6 ≤ rate.toNat
  · rw [exec_setOsr_of_invalid hinvalid] at h
    exact endsWithin_dispatched_raise (e := .invalidParameter) trivial hinvalid h
  · obtain ⟨hsensor, hrate⟩ := not_or.1 hinvalid
    obtain ⟨addr, shift, hfield⟩ := exists_osrField hsensor
    rw [exec_setOsr_of_valid hfield (Nat.lt_of_not_le hrate)] at h
    exact endsWithin_writeField trivial trivial trivial h

theorem getOsr_endsWithin {actual : BitVec 1} {sensor : BitVec 2} (h : exec (.getOsr actual sensor) s = .next t) :
    EndsWithin (mayEndWith (.getOsr actual sensor) s) t := by
  by_cases hinvalid : 3 ≤ sensor.toNat
  · rw [exec_getOsr_of_invalid actual hinvalid] at h
    exact endsWithin_dispatched_raise (e := .invalidParameter) trivial hinvalid h
  · obtain ⟨addr, shift, hfield⟩ := exists_osrField hinvalid
    rw [exec_getOsr_of_valid actual hfield] at h
    exact endsWithin_readBack trivial trivial trivial h

/-- Whatever the command, a step ends it with INVALID_PARAMETER or TIMEOUT only where rules R265 and R266 allow it. -/
theorem exec_endsWithin (h : exec i s = .next t) : EndsWithin (mayEndWith i s) t := by
  cases i with
  | begin => exact begin_endsWithin h
  | getMode => exact endsWithin_dispatched_respond (value := fun s => s.modeCache.setWidth 32) trivial trivial h
  | setMode => exact setMode_endsWithin h
  | setOsr => exact setOsr_endsWithin h
  | getOsr => exact getOsr_endsWithin h
  | getIir | getStandby => exact endsWithin_readBack trivial trivial trivial h
  | setIir | setStandby => exact endsWithin_writeField trivial trivial trivial h
  | measTime prec => rw [exec_measTime] at h; exact endsWithin_dispatched_respond trivial trivial h
  | readSensors => exact readSensors_endsWithin h
  | reset => exact reset_endsWithin h

/-- No two statuses share a code (rule R260). -/
theorem Status.code_injective : Function.Injective Status.code := by
  intro a b
  cases a <;> cases b <;> decide

/-- A step that ends a command with the code of `e` is one that may end it with `e`. -/
theorem mayEndWith_of_status {e : Status} (h : exec i s = .next t) (hidle : t.seq = .idle) (hstatus : t.rsp.status = e.code) :
    mayEndWith i s e := by
  obtain ⟨e', hcode, hmay⟩ := exec_endsWithin h hidle
  exact Status.code_injective (hstatus.symm.trans hcode) ▸ hmay

/-! ### INVALID_PARAMETER -/

/-- BEGIN refuses a selector other than the latched one (rule R265). -/
theorem exec_begin_of_otherSelector {kind : BitVec 2} {payload : BitVec 24} (hseq : s.seq = .idle)
    (hvalid : s.tselValid = true) (hsel : (⟨kind, payload⟩ : Selector) ≠ s.tsel) :
    exec (.begin kind payload) s = .next (s.raise .invalidParameter) := by
  simp only [exec, execBegin, hseq, if_pos (And.intro hvalid hsel)]

/-- Settles O37: each case is refused on the state it started in, and status 2 is the code of INVALID_PARAMETER alone,
which no step raises elsewhere. -/
theorem invalidParametersAreRefused : Obligations.InvalidParametersAreRefused := by
  unfold Obligations.InvalidParametersAreRefused
  refine ⟨fun s hseq => ⟨fun sensor rate heng hinvalid => ?setOsr, fun actual sensor heng hsensor => ?getOsr,
    fun kind payload hvalid hsel => ?begin⟩, fun i s t h hidle hstatus => ?onlyThese⟩
  case setOsr => rw [exec_setOsr_of_invalid hinvalid, dispatched_of_ready hseq heng, start_raise]; rfl
  case getOsr => rw [exec_getOsr_of_invalid actual hsensor, dispatched_of_ready hseq heng, start_raise]; rfl
  case begin => rw [exec_begin_of_otherSelector hseq hvalid hsel, raise_eq_failed]; rfl
  case onlyThese =>
    have hrefused : refusesOperands s i := mayEndWith_of_status (e := .invalidParameter) h hidle hstatus
    cases i with
    | setOsr sensor rate => exact .inl ⟨sensor, rate, rfl, hrefused⟩
    | getOsr actual sensor => exact .inr (.inl ⟨actual, sensor, rfl, hrefused⟩)
    | begin kind payload => exact .inr (.inr ⟨kind, payload, rfl, hrefused⟩)
    | _ => exact hrefused.elim

/-! ### TIMEOUT -/

/-- A busy status read that reaches POLL_LIMIT ends the poll (rule R266). -/
theorem sensorsBody_of_pollLimitReached {st : BurstData} (hlatch : s.latch = [.ok st]) (hbusy : statusBusy st.b0 = true)
    (hlimit : pollLimitReached s.cfg.pollLimit s.seq.polls = true) : sensorsBody s = .next (s.raise .timeout) := by
  simp only [sensorsBody, hlatch, burstByte, hbusy, hlimit, if_true]

/-- Settles O47: the last read was busy and the limit is reached, so the poll ends; and status 4 is the code of TIMEOUT
alone, which needs a POLL_LIMIT. -/
theorem pollLimitGivesTimeout : Obligations.PollLimitGivesTimeout := by
  unfold Obligations.PollLimitGivesTimeout
  refine ⟨fun s w k p n st hseq hlatch hbusy hlimit hreached => ?timeout, fun i s t hnone h hidle hstatus => ?never⟩
  case timeout =>
    have hpolls : pollLimitReached s.cfg.pollLimit s.seq.polls = true := by
      rw [hlimit, hseq]
      exact decide_eq_true hreached
    calc exec .readSensors s = sensorsBody s := dispatched_of_busy hseq
      _ = .next (s.raise .timeout) := sensorsBody_of_pollLimitReached hlatch (decide_eq_true hbusy) hpolls
  case never =>
    have hlimit : s.cfg.pollLimit ≠ none := mayEndWith_of_status (e := .timeout) h hidle hstatus
    exact hlimit hnone

end Sys2Proof.Machine
end

section
/-! Encoding and decoding are inverse, and the decoder accepts exactly the well-formed words (30_encoding.md rules R101 to
R113). -/

namespace Sys2Proof

open Sys2Proof.Safety

variable {w mask : CmdWord} {i j : Instr}

/-! ### A word field by field -/

/-- What `reserving` accepts is the command it was given. -/
theorem eq_of_reserving (h : reserving w mask i = .ok j) : i = j := by
  unfold reserving at h
  split at h
  · exact Except.ok.inj h
  · cases h

/-- A layout accepts a word whose reserved bits are clear. -/
theorem reserving_of_and_eq_zero (i : Instr) (hmask : w &&& mask = 0) : reserving w mask i = .ok i := if_pos hmask

/-- A field that is 0 contributes no bit under its own mask. -/
theorem and_fieldMask_eq_zero {lo n : Nat} (hfield : w.extractLsb' lo n = 0#n) :
    w &&& ((BitVec.allOnes n).setWidth 32 <<< lo) = 0 := by
  apply BitVec.eq_of_getLsbD_eq
  intro b hb
  by_cases hin : lo ≤ b ∧ b - lo < n
  · have hbit := congrArg (BitVec.getLsbD · (b - lo)) hfield
    have hw : w.getLsbD b = false := by simpa [hin.2, Nat.add_sub_cancel' hin.1] using hbit
    simp [hw]
  · have hout : b < lo ∨ n ≤ b - lo := by omega
    rcases hout with hlow | hhigh
    · simp [hlow]
    · simp [Nat.not_lt.2 hhigh]

/-- The bits of a payload from `lo` up are 0 exactly where its value is below 2^lo (rule R103). -/
theorem extractLsb'_eq_zero_iff_lt {m lo n : Nat} (hm : lo + n = m) (x : BitVec m) :
    x.extractLsb' lo n = 0#n ↔ x.toNat < 2 ^ lo := by
  have hdiv : x.toNat / 2 ^ lo < 2 ^ n := Nat.div_lt_of_lt_mul (by rw [← pow_add, hm]; exact x.isLt)
  rw [← BitVec.toNat_inj, BitVec.extractLsb'_toNat, Nat.shiftRight_eq_div_pow, Nat.mod_eq_of_lt hdiv, BitVec.toNat_ofNat,
    Nat.zero_mod, Nat.div_eq_zero_iff]
  simp

/-- The BEGIN operands that rule R103 admits, as the statements write them. -/
theorem selectorOk_iff (kind : BitVec 2) (payload : BitVec 24) :
    Instr.selectorOk kind payload = true ↔ (kind = 0#2 ∧ payload.extractLsb' 7 17 = 0#17) ∨
      (kind = 1#2 ∧ payload.extractLsb' 6 18 = 0#18) ∨ kind = 2#2 := by
  rw [extractLsb'_eq_zero_iff_lt (by decide), extractLsb'_eq_zero_iff_lt (by decide)]
  have hkind : kind = 0#2 ∨ kind = 1#2 ∨ kind = 2#2 ∨ kind = 3#2 := by revert kind; decide
  rcases hkind with rfl | rfl | rfl | rfl <;> simp [Instr.selectorOk]

/-- The kind's reserved payload bits and bits [25:24] are one field of the word. -/
theorem and_beginMask_eq_zero {lo n : Nat} (hn : lo + n = 24) (hreserved : w.extractLsb' 24 2 = 0#2)
    (hpayload : (w.extractLsb' 0 24).extractLsb' lo n = 0#n) :
    w &&& ((BitVec.allOnes (2 + n)).setWidth 32 <<< lo) = 0 := by
  rw [BitVec.extractLsb'_extractLsb'_of_le (by omega)] at hpayload
  refine and_fieldMask_eq_zero ?_
  rw [← BitVec.extractLsb'_append_extractLsb'_eq_extractLsb' hn.symm, hreserved, hpayload]
  exact BitVec.zero_append_zero

/-- A word of BEGIN with bits [25:24] clear and an operand that rule R103 admits decodes to it. -/
theorem decode_of_beginFields (hop : opOf w = 0) (hreserved : w.extractLsb' 24 2 = 0#2)
    (hsel : Instr.selectorOk (w.extractLsb' 26 2) (w.extractLsb' 0 24) = true) :
    decode w = .ok (.begin (w.extractLsb' 26 2) (w.extractLsb' 0 24)) := by
  have hbegin : decode w = decodeBegin w := by simp [decode, hop]
  rw [hbegin, decodeBegin]
  rcases (selectorOk_iff _ _).1 hsel with ⟨hkind, hpayload⟩ | ⟨hkind, hpayload⟩ | hkind <;> rw [hkind]
  · exact reserving_of_and_eq_zero _ (and_beginMask_eq_zero (by decide) hreserved hpayload)
  · exact reserving_of_and_eq_zero _ (and_beginMask_eq_zero (by decide) hreserved hpayload)
  · exact reserving_of_and_eq_zero _ (and_fieldMask_eq_zero hreserved)

/-! ### Decoding an encoded command -/

/-- BEGIN's word holds its operand in the fields of rule R103. -/
theorem decode_encode_begin {kind : BitVec 2} {payload : BitVec 24} (h : Instr.selectorOk kind payload = true) :
    decode (encode (.begin kind payload)) = .ok (.begin kind payload) := by
  have hkind : (encode (.begin kind payload)).extractLsb' 26 2 = kind := by
    show (0#4 ++ kind ++ 0#2 ++ payload).extractLsb' 26 2 = kind
    rw [BitVec.extractLsb'_append_eq_of_le (by decide), BitVec.extractLsb'_append_eq_of_le (by decide)]
    exact BitVec.extractLsb'_append_eq_right
  have hreserved : (encode (.begin kind payload)).extractLsb' 24 2 = 0#2 := by
    show (0#4 ++ kind ++ 0#2 ++ payload).extractLsb' 24 2 = 0#2
    rw [BitVec.extractLsb'_append_eq_of_le (by decide)]
    exact BitVec.extractLsb'_append_eq_right
  have hpayload : (encode (.begin kind payload)).extractLsb' 0 24 = payload := BitVec.extractLsb'_append_eq_right
  have hdecode := decode_of_beginFields (w := encode (.begin kind payload)) (Laws.EncodeOpcode.begin kind payload) hreserved
    (by rwa [hkind, hpayload])
  rwa [hkind, hpayload] at hdecode

/-- Settles O1: BEGIN by its fields, the other commands by their operand codes, of at most five bits. -/
theorem decodeOfEncode : Obligations.DecodeOfEncode := by
  unfold Obligations.DecodeOfEncode
  intro i hwf
  cases i with
  | begin kind payload => exact decode_encode_begin hwf
  | setMode mode => revert mode; decide
  | setOsr sensor rate => revert sensor rate; decide
  | getOsr actual sensor => revert actual sensor; decide
  | setIir v | setStandby v => revert v; decide
  | measTime prec => revert prec; decide
  | getMode | getIir | getStandby | readSensors | reset => decide

/-! ### Encoding a decoded command -/

/-- Two adjacent fields of a word are one field. -/
theorem append_fields {lo m hi n : Nat} {x : BitVec n} {y : BitVec m} (hx : x = w.extractLsb' hi n) (hy : y = w.extractLsb' lo m)
    (hadj : hi = lo + m) : x ++ y = w.extractLsb' lo (n + m) := by
  rw [hx, hy, BitVec.extractLsb'_append_extractLsb'_eq_extractLsb' hadj]

/-- The top field of a word is its opcode. -/
theorem opcode_eq_field {op : Nat} (hop : (opOf w).toNat = op) : BitVec.ofNat 4 op = w.extractLsb' 28 4 := by
  rw [← hop, BitVec.ofNat_toNat, BitVec.setWidth_eq, opOf]

/-- A reserved field of an accepted word is 0. -/
theorem zero_eq_field {lo n : Nat} (hmask : w &&& mask = 0) (hfield : mask.extractLsb' lo n = BitVec.allOnes n) :
    0#n = w.extractLsb' lo n := (extractLsb'_eq_zero_of_mask hmask hfield).symm

/-- What fills all 32 bits of a word is the word. -/
theorem eq_word {x : CmdWord} (h : x = w.extractLsb' 0 32) : x = w := h.trans BitVec.extractLsb'_eq_self

/-- A command without operands. -/
theorem opcode_append_zero {op : Nat} (hop : (opOf w).toNat = op) (hmask : w &&& 0x0FFFFFFF = 0) :
    BitVec.ofNat 4 op ++ 0#28 = w :=
  eq_word (append_fields (opcode_eq_field hop) (zero_eq_field hmask (by decide)) rfl)

/-- A command with one operand in its lowest `n` bits. -/
theorem opcode_append_operand {op n z : Nat} (hop : (opOf w).toNat = op) (hmask : w &&& mask = 0)
    (hfield : mask.extractLsb' n z = BitVec.allOnes z) (hadj : 28 = n + z) :
    BitVec.ofNat 4 op ++ 0#z ++ w.extractLsb' 0 n = w.extractLsb' 0 (4 + z + n) :=
  append_fields (append_fields (opcode_eq_field hop) (zero_eq_field hmask hfield) hadj) rfl (Nat.zero_add n).symm

/-- The word of BEGIN's operand. -/
theorem encode_begin_of_fields (hop : (opOf w).toNat = 0) (hreserved : w.extractLsb' 24 2 = 0#2) :
    encode (.begin (w.extractLsb' 26 2) (w.extractLsb' 0 24)) = w :=
  eq_word (append_fields (append_fields (append_fields (opcode_eq_field hop) rfl rfl) hreserved.symm rfl) rfl rfl)

/-- BEGIN's layout reads the operand from the fields of rule R103. -/
theorem eq_begin_of_decodeBegin (h : decodeBegin w = .ok i) : i = .begin (w.extractLsb' 26 2) (w.extractLsb' 0 24) := by
  simp only [decodeBegin] at h
  split at h
  case h_4 => cases h
  all_goals exact (eq_of_reserving h).symm

/-- A row whose mask covers bits [31:28] fixes the opcode. -/
theorem opOf_of_row {row : CmdWord × CmdWord} (hcovers : opOf row.2 = BitVec.allOnes 4) (hmatch : w &&& row.2 = row.1) :
    opOf w = opOf row.1 := by
  calc opOf w = opOf w &&& opOf row.2 := by rw [hcovers, BitVec.and_allOnes]
    _ = opOf (w &&& row.2) := BitVec.extractLsb'_and.symm
    _ = opOf row.1 := by rw [hmatch]

/-- Bits that a row's mask covers are 0 where the row's word has them 0. -/
theorem and_eq_zero_of_row {row : CmdWord × CmdWord} (hmatch : w &&& row.2 = row.1) (hcovers : row.2 &&& mask = mask)
    (hzero : row.1 &&& mask = 0) : w &&& mask = 0 := by
  rw [← hcovers, ← BitVec.and_assoc, hmatch, hzero]

/-- Bits [25:24] of a well-formed word of BEGIN are 0, and its operand is one that rule R103 admits. -/
theorem beginFields_of_wordWellFormed (hop : opOf w = 0#4) (h : wordWellFormed w) :
    w.extractLsb' 24 2 = 0#2 ∧ Instr.selectorOk (w.extractLsb' 26 2) (w.extractLsb' 0 24) = true := by
  obtain ⟨⟨row, hrow, hmatch⟩, hsel⟩ := h
  have hfirst : row = (0x00000000, 0xF3000000) := by
    simp only [opcodeRows, List.mem_cons, List.not_mem_nil, or_false] at hrow
    rcases hrow with rfl | rfl | rfl | rfl | rfl | rfl | rfl | rfl | rfl | rfl | rfl | rfl
    · rfl
    all_goals exact absurd ((opOf_of_row (by decide) hmatch).symm.trans hop) (by decide)
  subst hfirst
  refine ⟨extractLsb'_eq_zero_of_mask hmatch (by decide), (selectorOk_iff _ _).2 ?_⟩
  rw [BitVec.extractLsb'_extractLsb'_of_le (by decide), BitVec.extractLsb'_extractLsb'_of_le (by decide)]
  exact hsel hop

/-- What BEGIN's layout accepts is a well-formed command and its word. -/
theorem encode_of_decodeBegin (hop : (opOf w).toNat = 0) (h : decodeBegin w = .ok i) : i.wellFormed = true ∧ encode i = w := by
  obtain ⟨hreserved, hsel⟩ := beginFields_of_wordWellFormed (BitVec.eq_of_toNat_eq hop) (wordWellFormed_of_decodeBegin hop h)
  rw [eq_begin_of_decodeBegin h]
  exact ⟨hsel, encode_begin_of_fields hop hreserved⟩

/-- What another layout accepts is the word of its command where that word's fields make it up. -/
theorem encode_of_reserving (hwf : i.wellFormed = true) (hword : w &&& mask = 0 → encode i = w) (h : reserving w mask i = .ok j) :
    j.wellFormed = true ∧ encode j = w :=
  eq_of_reserving h ▸ ⟨hwf, hword (and_mask_eq_zero_of_reserving h)⟩

/-- Settles O2: in each layout the opcode, the operands and the clear bits are all the fields of the word. -/
theorem encodeOfDecode : Obligations.EncodeOfDecode := by
  unfold Obligations.EncodeOfDecode
  intro w i h
  unfold decode at h
  split at h
  case h_1 hop => exact encode_of_decodeBegin hop h
  case h_2 hop | h_6 hop | h_8 hop | h_11 hop | h_12 hop => exact encode_of_reserving rfl (opcode_append_zero hop) h
  case h_3 hop | h_7 hop | h_9 hop | h_10 hop =>
    refine encode_of_reserving rfl (fun hmask => eq_word ?_) h
    exact opcode_append_operand hop hmask (by decide) rfl
  case h_4 hop =>
    refine encode_of_reserving rfl (fun hmask => eq_word ?_) h
    exact append_fields (append_fields (append_fields (append_fields (opcode_eq_field hop)
      (zero_eq_field hmask (by decide)) rfl) rfl rfl) (zero_eq_field hmask (by decide)) rfl) rfl rfl
  case h_5 hop =>
    refine encode_of_reserving rfl (fun hmask => eq_word ?_) h
    exact append_fields (append_fields (append_fields (append_fields (append_fields (opcode_eq_field hop)
      (zero_eq_field hmask (by decide)) rfl) rfl rfl) (zero_eq_field hmask (by decide)) rfl) rfl rfl)
      (zero_eq_field hmask (by decide)) rfl
  case h_13 => cases h

/-! ### The words the decoder accepts -/

/-- A word that matches a row of the opcode table, and has an admitted operand where it is BEGIN's, decodes. -/
theorem exists_decode_of_wordWellFormed (h : wordWellFormed w) : ∃ i, decode w = .ok i := by
  obtain ⟨row, hrow, hmatch⟩ := h.1
  simp only [opcodeRows, List.mem_cons, List.not_mem_nil, or_false] at hrow
  rcases hrow with rfl | rfl | rfl | rfl | rfl | rfl | rfl | rfl | rfl | rfl | rfl | rfl
  · have hop : opOf w = 0#4 := opOf_of_row (by decide) hmatch
    obtain ⟨hreserved, hsel⟩ := beginFields_of_wordWellFormed hop h
    exact ⟨_, decode_of_beginFields hop hreserved hsel⟩
  all_goals
    rw [decode, opOf_of_row (by decide) hmatch]
    exact ⟨_, reserving_of_and_eq_zero _ (and_eq_zero_of_row hmatch (by decide) (by decide))⟩

/-- Settles O3. -/
theorem decoderAcceptsTheWellFormedWords : Obligations.DecoderAcceptsTheWellFormedWords := by
  unfold Obligations.DecoderAcceptsTheWellFormedWords
  exact fun w => ⟨fun ⟨_, h⟩ => wordWellFormed_of_decode h, exists_decode_of_wordWellFormed⟩

/-- Settles O4: the decoder runs on each word. -/
theorem sampleWordsDecode : Obligations.SampleWordsDecode := by
  unfold Obligations.SampleWordsDecode
  decide

end Sys2Proof

namespace Sys2Proof.Machine.Assembler

/-! ### The assembler -/

/-- A number the assembler accepts for a field is a pattern of that field. -/
theorem toNat_append_field_lt {n m : Nat} (x : BitVec n) : (0#m ++ x).toNat < 2 ^ n := by
  simp [x.isLt]

/-- Every line of the assembler stands for a well-formed command: the operand of an I2C or HardwareSPI BEGIN leaves its
reserved bits 0 (rules R103 and R113). -/
theorem wellFormed_of_commandOf {l : Line} {i : Instr} (h : commandOf l = some i) : i.wellFormed = true := by
  cases l with
  | beginI2c addr =>
    obtain ⟨a, -, rfl⟩ := Option.map_eq_some_iff.1 h
    exact decide_eq_true (toNat_append_field_lt (m := 17) a)
  | beginHwSpi cs =>
    obtain ⟨c, -, rfl⟩ := Option.map_eq_some_iff.1 h
    exact decide_eq_true (toNat_append_field_lt (m := 18) c)
  | beginSwSpi cs mosi miso sck =>
    simp only [commandOf] at h
    split at h
    · cases h; rfl
    · cases h
  | setOsr s r => obtain ⟨c, -, rfl⟩ := Option.map_eq_some_iff.1 h; rfl
  | setIir v | setStandby v => obtain ⟨c, -, rfl⟩ := Option.map_eq_some_iff.1 h; rfl
  | getMode | setMode | getOsr | getIir | getStandby | measTime | readSensors | reset => cases h; rfl

/-- Settles O5: a line's word is the encoding of its well-formed command, which decodes back by O1. -/
theorem assemblerEmitsWellFormedWords : Obligations.AssemblerEmitsWellFormedWords := by
  unfold Obligations.AssemblerEmitsWellFormedWords
  intro l w h
  obtain ⟨i, hi, rfl⟩ := Option.map_eq_some_iff.1 h
  exact ⟨i, hi, decodeOfEncode i (wellFormed_of_commandOf hi)⟩

end Sys2Proof.Machine.Assembler
end

section
/-! What a step of any command changes and what it leaves unchanged (10_state.md rules R29 to R41, 20_memory.md rules R72 and
R79, 30_encoding.md rule R100). -/

namespace Sys2Proof.Machine

open Sys2Proof.Config Sys2Proof.Safety

variable {s t u : State} {i : Instr} {w : CmdWord} {ws : List CmdWord} {k p : Nat}

/-! ### A step runs the decoded command -/

/-- A word that decodes runs its command. -/
theorem runWord_of_ok (h : decode w = .ok i) (s : State) : runWord w s = exec i s := by
  simp only [runWord, h]

/-- A busy engine goes on with the word of its command. -/
theorem step_of_busy (hseq : s.seq = .busy w k p) : step s = runWord w s := by
  simp only [step, hseq]

/-- An idle engine to which the host presents nothing takes nothing. -/
theorem step_of_waiting (hseq : s.seq = .idle) (hwords : s.hostWords = []) : step s = .next s := by
  have htake : s.take = none := by simp [State.take, hseq, hwords]
  simp only [step, hseq, htake]

/-- An idle engine runs the command it is presented, on the state without its word. -/
theorem step_eq_exec_of_idle (hseq : s.seq = .idle) (hwords : s.hostWords = w :: ws) (hdecode : decode w = .ok i) :
    step s = exec i { s with hostWords := ws } := by
  rw [step_of_idle hseq hwords, runWord_of_ok hdecode]

/-- A busy engine runs the command it is executing. -/
theorem step_eq_exec_of_busy (hseq : s.seq = .busy w k p) (hdecode : decode w = .ok i) : step s = exec i s := by
  rw [step_of_busy hseq, runWord_of_ok hdecode]

/-- Settles O6. -/
theorem stepRunsTheDecodedCommand : Obligations.StepRunsTheDecodedCommand := by
  unfold Obligations.StepRunsTheDecodedCommand
  exact ⟨fun _ _ _ _ => step_eq_exec_of_idle, fun _ _ _ _ _ => step_eq_exec_of_busy⟩

/-- Settles O8. -/
theorem idleEngineWaitsForAWord : Obligations.IdleEngineWaitsForAWord := by
  unfold Obligations.IdleEngineWaitsForAWord
  exact fun s => step_of_waiting

/-- What every command, the refusal of a word and the taking of a word keep, every step keeps. -/
theorem step_keeps {P : State → Prop} (hexec : ∀ {i s t}, P s → exec i s = .next t → P t)
    (hraise : ∀ {s}, P s → P (s.raise .illegalCommand)) (htake : ∀ {s} (ws : List CmdWord), P s → P { s with hostWords := ws })
    (hs : P s) (h : step s = .next t) : P t := by
  rcases step_cases h with ⟨_, _, _, _, _, _, h⟩ | ⟨_, _, _, _, _, _, rfl⟩ | ⟨_, ws, _, _, _, _, h⟩ | ⟨_, ws, _, _, _, _, rfl⟩ |
    ⟨_, _, rfl⟩
  · exact hexec hs h
  · exact hraise hs
  · exact hexec (htake ws hs) h
  · exact hraise (htake ws hs)
  · exact hs

/-! ### Every step answers a next state -/

/-- A meaning answers a next state: it neither faults nor is refused. -/
def Answers (r : Result) : Prop := ∃ t, r = .next t

theorem answers_next (t : State) : Answers (.next t) := ⟨t, rfl⟩

theorem answers_proceed {α : Type} (s : State) (sel : Selector) (p : Progress α) (commit : α → State → State) :
    Answers (s.proceed sel p commit) := by
  cases p with
  | issue t => exact answers_next _
  | stop e => exact answers_next _
  | done a => exact answers_next _

theorem answers_conclude (s : State) (status : Byte) (r : Option Results) : Answers (s.conclude status r) := by
  cases r with
  | none => exact answers_next _
  | some r => exact answers_next _

theorem answers_dispatched {body : State → Result} (i : Instr) (s : State) (hbody : ∀ u, Answers (body u)) :
    Answers (dispatched i s body) := by
  unfold dispatched
  split
  · split
    · exact hbody _
    · exact answers_next _
  · exact hbody _

theorem answers_beginBody (sel : Selector) (s : State) : Answers (beginBody sel s) := answers_proceed _ _ _ _

theorem answers_execBegin (kind : BitVec 2) (payload : BitVec 24) (s : State) : Answers (execBegin kind payload s) := by
  unfold execBegin
  split
  · split
    · exact answers_next _
    · exact answers_beginBody _ _
  · exact answers_beginBody _ _

theorem answers_execReset (s : State) : Answers (execReset s) := by
  refine answers_dispatched _ _ fun u => ?_
  split
  · exact answers_next _
  · exact answers_next _
  · exact answers_proceed _ _ _ _

theorem answers_sensorsBody (s : State) : Answers (sensorsBody s) := by
  unfold sensorsBody
  split
  · exact answers_next _
  · exact answers_next _
  · split
    · split
      · exact answers_next _
      · exact answers_next _
    · exact answers_next _
  · exact answers_next _
  · exact answers_conclude _ _ _

theorem answers_setOsr (sensor : BitVec 2) (rate : BitVec 3) (s : State) : Answers (execSetOsr sensor rate s) := by
  refine answers_dispatched _ _ fun u => ?_
  split
  · exact answers_proceed _ _ _ _
  · exact answers_next _

theorem answers_getOsr (actual : BitVec 1) (sensor : BitVec 2) (s : State) : Answers (execGetOsr actual sensor s) := by
  refine answers_dispatched _ _ fun u => ?_
  split
  · exact answers_proceed _ _ _ _
  · exact answers_next _

theorem answers_exec (i : Instr) (s : State) : Answers (exec i s) := by
  cases i with
  | begin kind payload => exact answers_execBegin kind payload s
  | getMode | measTime =>
    simp only [exec, execGetMode, execMeasTime]
    exact answers_dispatched _ _ fun u => answers_next _
  | setMode | getIir | setIir | getStandby | setStandby =>
    simp only [exec, execSetMode, execGetIir, execSetIir, execGetStandby, execSetStandby]
    exact answers_dispatched _ _ fun u => answers_proceed _ _ _ _
  | setOsr sensor rate => exact answers_setOsr sensor rate s
  | getOsr actual sensor => exact answers_getOsr actual sensor s
  | readSensors => exact answers_dispatched _ _ answers_sensorsBody
  | reset => exact answers_execReset s

theorem answers_runWord (w : CmdWord) (s : State) : Answers (runWord w s) := by
  unfold runWord
  split
  · exact answers_exec _ _
  · exact answers_next _

/-- Settles O10: a step runs a word or waits, and every command's meaning answers a next state. -/
theorem everyStepAnswersANextState : Obligations.EveryStepAnswersANextState := by
  unfold Obligations.EveryStepAnswersANextState
  intro s
  unfold step
  split
  · exact answers_runWord _ _
  · split
    · exact answers_runWord _ _
    · exact answers_next _

/-! ### A transaction or the completion -/

/-- A body runs on a busy state that differs from the one before the step in SEQ and the answers received alone. -/
theorem RunsOn.eq_update (h : RunsOn i s u) : ∃ q l, u = { s with seq := q, latch := l } ∧ q ≠ .idle := by
  rcases h with ⟨rfl, hseq⟩ | rfl
  · exact ⟨u.seq, u.latch, rfl, hseq⟩
  · exact ⟨_, _, rfl, Seq.noConfusion⟩

/-- The reset write is a transaction after which ENG_STATE, CAL_VALID and, where it succeeded, the mirror are cleared. -/
theorem resetWrite_eq (s : State) : ∃ m h c f,
    resetWrite s = { s.dropReady.transact s.tsel (.write addrSoftReset s.cfg.resetCode) with
      modeCache := m, shCtrlHum := h, shCtrlMeas := c, shConfig := f } ∧
    ((m = s.modeCache ∧ h = s.shCtrlHum ∧ c = s.shCtrlMeas ∧ f = s.shConfig) ∨ (m = 0 ∧ h = 0 ∧ c = 0 ∧ f = 0)) := by
  rcases resetWrite_cases s with ⟨_, h⟩ | ⟨_, _, h⟩
  · exact ⟨_, _, _, _, h, .inl ⟨rfl, rfl, rfl, rfl⟩⟩
  · exact ⟨_, _, _, _, h, .inr ⟨rfl, rfl, rfl, rfl⟩⟩

/-- A step from `s` to `t` makes one transaction and stays busy (rules R29 and R41). -/
def IsTransaction (s t : State) : Prop :=
  (∃ e, t.busTrace = e :: s.busTrace) ∧ t.seq ≠ .idle ∧ t.delivered = s.delivered ∧ t.rsp = s.rsp ∧
    t.rspWritten = s.rspWritten ∧ t.script = s.script.tail

/-- A step from `s` to `t` ends its command (rules R29, R41 and R100). -/
def IsCompletion (s t : State) : Prop :=
  t.busTrace = s.busTrace ∧ t.seq = .idle ∧ t.latch = [] ∧ t.delivered = t.rsp :: s.delivered ∧ t.rspWritten = true ∧
    t.script = s.script

/-- The end of a command is its completion, whatever else it commits. -/
theorem isCompletion_finish (htrace : u.busTrace = s.busTrace) (hdelivered : u.delivered = s.delivered)
    (hscript : u.script = s.script) (r : Response) : IsCompletion s (u.finish r) :=
  ⟨htrace, rfl, rfl, congrArg (r :: ·) hdelivered, rfl, hscript⟩

theorem isCompletion_commitResults (hu : RunsOn i s u) (status : Byte) (r : Results) :
    IsCompletion s (u.commitResults status r) := by
  obtain ⟨q, l, rfl, _⟩ := hu.eq_update
  exact isCompletion_finish (by simp) (by simp) (by simp) _

theorem transact_ne_idle (hu : RunsOn i s u) (sel : Selector) (tx : Transaction) : (u.transact sel tx).seq ≠ .idle := by
  obtain ⟨q, l, rfl, hq⟩ := hu.eq_update
  exact advance_ne_idle hq

theorem isTransaction_transact (hu : RunsOn i s u) (sel : Selector) (tx : Transaction) : IsTransaction s (u.transact sel tx) := by
  have hbusy := transact_ne_idle hu sel tx
  obtain ⟨q, l, rfl, _⟩ := hu.eq_update
  exact ⟨⟨_, rfl⟩, hbusy, rfl, rfl, rfl, rfl⟩

/-- Settles O11, by the cases of a command's step. -/
theorem eachStepIsATransactionOrTheCompletion : Obligations.EachStepIsATransactionOrTheCompletion := by
  unfold Obligations.EachStepIsATransactionOrTheCompletion
  intro i s t h
  show IsTransaction s t ∨ IsCompletion s t
  cases exec_outcome h with
  | error e _ h => rcases h with rfl | rfl <;> exact .inr (isCompletion_finish rfl rfl rfl _)
  | transaction u hu tx h => exact .inl (h ▸ isTransaction_transact hu _ tx)
  | beginTransaction kind payload _ u hu tx h =>
    rcases h with rfl | rfl
    · exact .inl (isTransaction_transact hu _ tx)
    · exact .inl (isTransaction_transact hu _ tx)
  | resetWritten _ u hu h =>
    obtain ⟨m, hum, meas, config, hwrite, _⟩ := resetWrite_eq u
    rw [h, hwrite]
    exact .inl (isTransaction_transact hu u.tsel (.write addrSoftReset u.cfg.resetCode))
  | polled _ u hu h =>
    obtain ⟨q, l, rfl, hq⟩ := hu.eq_update
    exact .inl (h ▸ ⟨⟨_, rfl⟩, polled_ne_idle _ hq, rfl, rfl, rfl, rfl⟩)
  | shadowed addr v v0 h => exact .inr (h ▸ isCompletion_finish (by simp) (by simp) (by simp) _)
  | answered u hu v0 h =>
    obtain ⟨q, l, rfl, _⟩ := hu.eq_update
    exact .inr (h ▸ isCompletion_finish rfl rfl rfl _)
  | modeWritten m v _ h => exact .inr (h ▸ isCompletion_finish rfl rfl rfl _)
  | begun kind payload _ c h => exact .inr (h ▸ isCompletion_finish rfl rfl rfl _)
  | restarted _ c h => exact .inr (h ▸ isCompletion_finish rfl rfl rfl _)
  | measured _ u hu st d r _ h => exact .inr (h ▸ isCompletion_commitResults hu _ r)


/-! ### The transactions -/

/-- A step from `s` to `t` made `tx` on `sel`, answered by the device. -/
theorem transact_busTrace_of_runsOn (hu : RunsOn i s u) (sel : Selector) (tx : Transaction) :
    (u.transact sel tx).busTrace = ⟨sel, tx, s.ask sel tx⟩ :: s.busTrace := by
  obtain ⟨q, l, rfl, _⟩ := hu.eq_update
  rfl

/-- Settles O13: a step that is no transaction leaves the trace as it was, and the transactions are those that the cases of
a command's step name. -/
theorem transactionsAreThoseOfTheTable : Obligations.TransactionsAreThoseOfTheTable := by
  unfold Obligations.TransactionsAreThoseOfTheTable
  intro i s t h
  cases exec_outcome h with
  | error e _ h => rcases h with rfl | rfl <;> exact .inl rfl
  | transaction u hu tx h hm =>
    exact .inr ⟨_, h ▸ transact_busTrace_of_runsOn hu _ tx, rfl, hm, rfl⟩
  | beginTransaction kind payload _ u hu tx h hm =>
    have htrace : t.busTrace = ⟨selectorOf i s, tx, s.ask (selectorOf i s) tx⟩ :: s.busTrace := by
      rcases h with rfl | rfl <;> exact transact_busTrace_of_runsOn hu _ tx
    exact .inr ⟨_, htrace, rfl, hm, rfl⟩
  | resetWritten hi u hu h =>
    obtain ⟨q, l, rfl, _⟩ := hu.eq_update
    obtain ⟨m, hum, meas, config, hwrite, _⟩ := resetWrite_eq { s with seq := q, latch := l }
    rw [h, hwrite, hi]
    exact .inr ⟨_, rfl, rfl, by simp [mayIssue, addrSoftReset], rfl⟩
  | polled hi u hu h =>
    obtain ⟨q, l, rfl, _⟩ := hu.eq_update
    rw [h, hi]
    exact .inr ⟨_, rfl, rfl, by simp [mayIssue], rfl⟩
  | shadowed addr v v0 h => exact .inl (h ▸ State.setShadow_busTrace s addr v)
  | answered u hu v0 h => obtain ⟨q, l, rfl, _⟩ := hu.eq_update; exact .inl (h ▸ rfl)
  | modeWritten m v _ h => exact .inl (h ▸ rfl)
  | begun kind payload _ c h => exact .inl (h ▸ rfl)
  | restarted _ c h => exact .inl (h ▸ rfl)
  | measured _ u hu st d r _ h => obtain ⟨q, l, rfl, _⟩ := hu.eq_update; exact .inl (h ▸ by simp)

/-! ### Who writes what -/

/-- `t` has the registers of `s`: SEQ, the answers received, the record of responses, the response registers and the
register-bus port may differ, and nothing else. -/
def SameRegisters (s t : State) : Prop :=
  ∃ q l d b a r wr, t = { s with seq := q, latch := l, delivered := d, busTrace := b, script := a, rsp := r, rspWritten := wr }

/-- What a step of the command `i` from `s` to `t` writes to the registers besides SEQ and the response registers. -/
inductive RegisterWrites (i : Instr) (s t : State) : Prop
  /-- Nothing. -/
  | none (h : SameRegisters s t)
  /-- BEGIN and RESET clear ENG_STATE and CAL_VALID, RESET may also clear MODE_CACHE and the shadows. -/
  | readyDropped (hi : (∃ kind payload, i = .begin kind payload) ∨ i = .reset) (m : BitVec 2) (hum meas config : Byte)
      (hmirror : (m = s.modeCache ∧ hum = s.shCtrlHum ∧ meas = s.shCtrlMeas ∧ config = s.shConfig) ∨
        (i = .reset ∧ m = 0 ∧ hum = 0 ∧ meas = 0 ∧ config = 0))
      (h : SameRegisters { s.dropReady with modeCache := m, shCtrlHum := hum, shCtrlMeas := meas, shConfig := config } t)
  /-- A getter or a setter that ends OK writes a shadow. -/
  | shadow (hbegin : ∀ kind payload, i ≠ .begin kind payload) (hreset : i ≠ .reset) (hend : t.seq = .idle ∧ t.rsp.status = 0)
      (hum meas config : Byte) (h : SameRegisters { s with shCtrlHum := hum, shCtrlMeas := meas, shConfig := config } t)
  /-- A SET_MODE that ends OK writes MODE_CACHE and SH_CTRL_MEAS. -/
  | mode (m : BitVec 2) (hi : i = .setMode m) (hend : t.seq = .idle ∧ t.rsp.status = 0) (v : Byte)
      (h : SameRegisters { s with modeCache := m, shCtrlMeas := v } t)
  /-- A BEGIN that ends OK writes the calibration and latches its transport. -/
  | begun (kind : BitVec 2) (payload : BitVec 24) (hi : i = .begin kind payload) (c : Calibration)
      (h : SameRegisters ((s.commitCal c).latchSel ⟨kind, payload⟩) t)
  /-- A RESET that ends OK writes the calibration. -/
  | restarted (hi : i = .reset) (c : Calibration) (h : SameRegisters (s.commitCal c) t)
  /-- A READ_SENSORS that ends OK writes the results of its burst, and the shadow of a shadowed STATUS_ADDR. -/
  | results (hi : i = .readSensors) (hend : t.seq = .idle ∧ t.rsp.status = 0) (v : Byte) (d : BurstData) (r : Results)
      (hr : compensate s.cfg s.cal d = some r)
      (h : SameRegisters { statusMirrored s v with results := r, resultsWritten := true } t)

/-- The end of a command writes no other register. -/
theorem sameRegisters_finish (s : State) (r : Response) : SameRegisters s (s.finish r) :=
  ⟨_, _, _, _, _, _, _, rfl⟩

theorem sameRegisters_finish_of_runsOn (hu : RunsOn i s u) (r : Response) : SameRegisters s (u.finish r) := by
  obtain ⟨q, l, rfl, _⟩ := hu.eq_update
  exact ⟨_, _, _, _, _, _, _, rfl⟩

/-- A transaction writes no other register. -/
theorem sameRegisters_transact (hu : RunsOn i s u) (sel : Selector) (tx : Transaction) : SameRegisters s (u.transact sel tx) := by
  obtain ⟨q, l, rfl, _⟩ := hu.eq_update
  exact ⟨_, _, _, _, _, _, _, rfl⟩

theorem sameRegisters_poll (hu : RunsOn i s u) : SameRegisters s u.poll := by
  obtain ⟨q, l, rfl, _⟩ := hu.eq_update
  exact ⟨_, _, _, _, _, _, _, rfl⟩

/-- Every command's step writes what one of these cases names. -/
theorem exec_registerWrites (h : exec i s = .next t) : RegisterWrites i s t := by
  cases exec_outcome h with
  | error e _ h => rcases h with rfl | rfl <;> exact .none ⟨_, _, _, _, _, _, _, rfl⟩
  | transaction u hu tx h => exact .none (h ▸ sameRegisters_transact hu _ tx)
  | beginTransaction kind payload hi u hu tx h =>
    rcases h with rfl | rfl
    · obtain ⟨q, l, rfl, _⟩ := hu.eq_update
      exact .readyDropped (.inl ⟨kind, payload, hi⟩) _ _ _ _ (.inl ⟨rfl, rfl, rfl, rfl⟩) ⟨_, _, _, _, _, _, _, rfl⟩
    · exact .none (sameRegisters_transact hu _ tx)
  | resetWritten hi u hu h =>
    obtain ⟨q, l, rfl, _⟩ := hu.eq_update
    obtain ⟨m, hum, meas, config, hwrite, hmirror⟩ := resetWrite_eq { s with seq := q, latch := l }
    exact .readyDropped (.inr hi) m hum meas config (hmirror.imp_right fun h => ⟨hi, h⟩)
      (h ▸ hwrite ▸ ⟨_, _, _, _, _, _, _, rfl⟩)
  | polled _ u hu h => exact .none (h ▸ sameRegisters_poll hu)
  | shadowed addr v v0 h hbegin hreset =>
    obtain ⟨hum, meas, config, hshadow⟩ := setShadow_fields s addr v
    exact .shadow hbegin hreset (h ▸ ⟨rfl, rfl⟩) hum meas config (h ▸ hshadow ▸ sameRegisters_finish _ _)
  | answered u hu v0 h => exact .none (h ▸ sameRegisters_finish_of_runsOn hu _)
  | modeWritten m v hi h => exact .mode m hi (h ▸ ⟨rfl, rfl⟩) v (h ▸ sameRegisters_finish _ _)
  | begun kind payload hi c h => exact .begun kind payload hi c (h ▸ sameRegisters_finish _ _)
  | restarted hi c h => exact .restarted hi c (h ▸ sameRegisters_finish _ _)
  | measured hi u hu st d r hc h =>
    obtain ⟨q, l, rfl, _⟩ := hu.eq_update
    exact .results hi (h ▸ ⟨rfl, rfl⟩) st.b0 d r hc (h ▸ commitResults_eq _ st.b0 r ▸ ⟨_, _, _, _, _, _, _, rfl⟩)

/-- No command writes the parameters (rule R9) or the host's words (rule R100). -/
theorem exec_cfg_hostWords (h : exec i s = .next t) : t.cfg = s.cfg ∧ t.hostWords = s.hostWords := by
  cases exec_registerWrites h with
  | none h | readyDropped _ _ _ _ _ _ h | shadow _ _ _ _ _ _ h | mode _ _ _ _ h | begun _ _ _ _ h | restarted _ _ h
  | results _ _ _ _ _ _ h =>
    obtain ⟨_, _, _, _, _, _, _, rfl⟩ := h
    exact ⟨rfl, rfl⟩

/-- Settles O9: the step takes the host's first word where SEQ is idle, and the command leaves the words alone. -/
theorem hostWordsAreTakenOnlyWhenIdle : Obligations.HostWordsAreTakenOnlyWhenIdle := by
  unfold Obligations.HostWordsAreTakenOnlyWhenIdle
  intro s t h
  rcases step_cases h with ⟨w, k, p, i, hseq, _, h⟩ | ⟨w, k, p, e, hseq, _, rfl⟩ | ⟨w, ws, i, hseq, hwords, _, h⟩ |
    ⟨w, ws, e, hseq, hwords, _, rfl⟩ | ⟨hseq, hwords, rfl⟩
  · simp [hseq, (exec_cfg_hostWords h).2]
  · simp [hseq]
  · simp [hseq, hwords, (exec_cfg_hostWords h).2]
  · simp [hseq, hwords]
  · simp [hseq, hwords]

/-- Settles O14: no command writes the parameters, and neither does the taking or the refusal of a word. -/
theorem parametersNeverChange : Obligations.ParametersNeverChange := by
  unfold Obligations.ParametersNeverChange
  exact fun s t => step_keeps (P := fun u => u.cfg = s.cfg) (fun hu h => (exec_cfg_hostWords h).1.trans hu) id (fun _ => id) rfl

/-- Settles O21: only BEGIN's and RESET's cases write these fields. -/
theorem onlyBeginAndResetWriteTheLifecycle : Obligations.OnlyBeginAndResetWriteTheLifecycle := by
  unfold Obligations.OnlyBeginAndResetWriteTheLifecycle
  intro i s t hbegin h
  cases exec_registerWrites h with
  | none h | shadow _ _ _ _ _ _ h | mode _ _ _ _ h | results _ _ _ _ _ _ h =>
    obtain ⟨_, _, _, _, _, _, _, rfl⟩ := h
    exact ⟨rfl, rfl, fun _ => ⟨rfl, rfl, rfl, rfl⟩⟩
  | readyDropped hi _ _ _ _ _ h =>
    obtain ⟨_, _, _, _, _, _, _, rfl⟩ := h
    exact ⟨rfl, rfl, fun hreset => (hi.elim (fun ⟨_, _, hi⟩ => hbegin _ _ hi) hreset).elim⟩
  | begun _ _ hi => exact absurd hi (hbegin _ _)
  | restarted hi _ h =>
    obtain ⟨_, _, _, _, _, _, _, rfl⟩ := h
    exact ⟨rfl, rfl, fun hreset => absurd hi hreset⟩

/-- The result registers are as they were, or READ_SENSORS ends OK with the results of a burst (rule R38). -/
theorem exec_results (h : exec i s = .next t) : (t.results = s.results ∧ t.resultsWritten = s.resultsWritten) ∨
    (i = .readSensors ∧ t.seq = .idle ∧ t.rsp.status = 0 ∧ t.resultsWritten = true ∧
      ∃ d, compensate s.cfg s.cal d = some t.results) := by
  cases exec_registerWrites h with
  | none h | readyDropped _ _ _ _ _ _ h | shadow _ _ _ _ _ _ h | mode _ _ _ _ h | begun _ _ _ _ h | restarted _ _ h =>
    obtain ⟨_, _, _, _, _, _, _, rfl⟩ := h
    exact .inl ⟨rfl, rfl⟩
  | results hi hend _ d r hr h =>
    obtain ⟨_, _, _, _, _, _, _, rfl⟩ := h
    exact .inr ⟨hi, hend.1, hend.2, rfl, d, hr⟩

/-- Settles O22. -/
theorem onlyReadSensorsWritesResults : Obligations.OnlyReadSensorsWritesResults := by
  unfold Obligations.OnlyReadSensorsWritesResults
  intro i s t h
  exact (exec_results h).imp_right fun ⟨hi, hseq, hstatus, hwritten, _⟩ => ⟨hi, hseq, hstatus, hwritten⟩

/-- Settles O23: only SET_MODE's end and RESET's write change it. -/
theorem onlySetModeAndResetWriteModeCache : Obligations.OnlySetModeAndResetWriteModeCache := by
  unfold Obligations.OnlySetModeAndResetWriteModeCache
  intro i s t h
  cases exec_registerWrites h with
  | none h | shadow _ _ _ _ _ _ h | begun _ _ _ _ h | restarted _ _ h | results _ _ _ _ _ _ h =>
    obtain ⟨_, _, _, _, _, _, _, rfl⟩ := h
    exact .inl rfl
  | readyDropped _ m _ _ _ hmirror h =>
    obtain ⟨_, _, _, _, _, _, _, rfl⟩ := h
    exact hmirror.imp And.left fun ⟨hi, hm, _⟩ => .inr ⟨hi, hm⟩
  | mode m hi hend _ h =>
    obtain ⟨_, _, _, _, _, _, _, rfl⟩ := h
    exact .inr (.inl ⟨m, hi, rfl, hend⟩)

/-- Settles O24: a step that neither ends a command OK nor is RESET's write leaves the shadows as they were. -/
theorem shadowsChangeOnlyOnSuccess : Obligations.ShadowsChangeOnlyOnSuccess := by
  unfold Obligations.ShadowsChangeOnlyOnSuccess
  intro i s t h
  cases exec_registerWrites h with
  | none h | begun _ _ _ _ h | restarted _ _ h =>
    obtain ⟨_, _, _, _, _, _, _, rfl⟩ := h
    exact .inl ⟨rfl, rfl, rfl⟩
  | readyDropped _ _ _ _ _ hmirror h =>
    obtain ⟨_, _, _, _, _, _, _, rfl⟩ := h
    exact hmirror.imp And.right fun ⟨hi, _, hshadows⟩ => .inr ⟨hi, hshadows⟩
  | shadow _ hreset hend => exact .inr (.inl ⟨hreset, hend⟩)
  | mode _ hi hend => exact .inr (.inl ⟨by simp [hi], hend⟩)
  | results hi hend => exact .inr (.inl ⟨by simp [hi], hend⟩)

end Sys2Proof.Machine
end

section
/-! The arithmetic of the compensation datapath (00_scope.md rules R10 to R12, 43_compensation.md rules R201 to R209). -/

namespace Sys2Proof.Machine

open Sys2Proof.Config Sys2Proof.Safety

/-! ### The checked primitives (rule R12) -/

theorem inWidth_iff {w : Nat} {r : Int} : inWidth w r = true ↔ -(2 ^ (w - 1)) ≤ r ∧ r < 2 ^ (w - 1) := decide_eq_true_iff

/-- In range, a primitive answers its exact result under either policy. -/
theorem checked_of_inWidth (p : OvfPolicy) {w : Nat} {r : Int} (h : inWidth w r = true) : checked p w r = some r := if_pos h

/-- Out of range, `fault` answers nothing. -/
theorem checked_fault_eq_none_iff {w : Nat} {r : Int} : checked .fault w r = none ↔ ¬ (-(2 ^ (w - 1)) ≤ r ∧ r < 2 ^ (w - 1)) := by
  rw [checked_fault, ← inWidth_iff]
  simp

/-- `asr` is the floor of the quotient by 2^k. -/
theorem asr_floor (a : Int) (k : Nat) : asr a k * 2 ^ k ≤ a ∧ a < (asr a k + 1) * 2 ^ k :=
  ⟨Int.ediv_mul_le a (by positivity), Int.lt_ediv_add_one_mul_self a (by positivity)⟩

/-- The truncated quotient by signs and magnitudes. -/
theorem tdiv_eq_sign_mul (a b : Int) : a.tdiv b = a.sign * b.sign * (a.natAbs / b.natAbs : Nat) := by
  have hmagnitude : (a.tdiv b).natAbs = a.natAbs / b.natAbs := Int.natAbs_tdiv a b
  rw [← Int.sign_mul_natAbs (a.tdiv b), Int.sign_tdiv, hmagnitude]
  split
  · next hlt => simp [Nat.div_eq_of_lt hlt]
  · rfl

/-- The quotient of 64-bit values is one, but for -2^63 / -1. -/
theorem inWidth_tdiv {a b : Int} (ha : -(2 ^ 63) ≤ a ∧ a < 2 ^ 63) (h : ¬ (a = -(2 ^ 63) ∧ b = -1)) :
    inWidth 64 (a.tdiv b) = true := by
  rw [inWidth_iff]
  have hmagnitude : (a.tdiv b).natAbs = a.natAbs / b.natAbs := Int.natAbs_tdiv a b
  by_cases hb : 2 ≤ b.natAbs
  · have hle : a.natAbs / b.natAbs ≤ a.natAbs / 2 := Nat.div_le_div_left hb (by decide)
    omega
  · have hunit : b = 0 ∨ b = 1 ∨ b = -1 := by omega
    rcases hunit with rfl | rfl | rfl
    · simp
    · simpa using ha
    · rw [Int.tdiv_neg, Int.tdiv_one]
      omega

/-- The one overflow of `tdiv_64`. -/
theorem tdiv_min : (-(2 ^ 63) : Int).tdiv (-1) = 2 ^ 63 := by decide

/-- Settles O50, clause by clause. -/
theorem checkedPrimitives : Obligations.CheckedPrimitives := by
  unfold Obligations.CheckedPrimitives
  refine fun p w r hw => ⟨fun hlo hhi => checked_of_inWidth p (inWidth_iff.2 ⟨hlo, hhi⟩), fun hout => ⟨?faults, ?wraps⟩,
    fun a b k => ⟨rfl, rfl, rfl, rfl, asr_floor a k⟩, fun a b halo hahi _ _ _ => ⟨fun hne => ?quotient, ?overflow⟩⟩
  case faults => exact checked_fault_eq_none_iff.2 fun ⟨hlo, hhi⟩ => hout.elim (not_lt.2 hlo) (not_le.2 hhi)
  case wraps =>
    obtain ⟨hlo, hhi⟩ := wrap_range hw r
    exact ⟨_, checked_wrap hw r, hlo, hhi, wrap_congr w r⟩
  case quotient => rw [tdiv64, checked_of_inWidth p (inWidth_tdiv ⟨halo, hahi⟩ hne), tdiv_eq_sign_mul]
  case overflow =>
    rintro rfl rfl
    rw [tdiv64, tdiv64, tdiv_min]
    decide

/-! ### Constants and raw values from their bytes (rules R131 to R133 and R201) -/

theorem toNat_append_eq {m n : Nat} (hi : BitVec m) (lo : BitVec n) : (hi ++ lo).toNat = hi.toNat * 2 ^ n + lo.toNat := by
  rw [BitVec.toNat_append, ← Nat.shiftLeft_add_eq_or_of_lt lo.isLt, Nat.shiftLeft_eq]

theorem toNat_lowNibble (b : Byte) : (b.extractLsb' 0 4).toNat = b.toNat % 16 := rfl

theorem toNat_highNibble (b : Byte) : (b.extractLsb' 4 4).toNat = b.toNat / 16 := by
  rw [BitVec.extractLsb'_toNat, Nat.shiftRight_eq_div_pow]
  omega

/-- The signed value of a 16-bit word: its sign bit is bit 7 of the high byte (rule R131). -/
theorem sext_word (hi lo : Byte) :
    sext (hi ++ lo) = if 128 ≤ hi.toNat then ((lo.toNat + 256 * hi.toNat : Nat) : Int) - 65536 else lo.toNat + 256 * hi.toNat := by
  rw [sext, BitVec.toInt_eq_toNat_cond, toNat_append_eq]
  split <;> split <;> omega

/-- The 12-bit constants: an 8-bit high part and a nibble, signed by bit 7 of the high part where H45_EXTEND is sign
(rule R133). -/
theorem extendH45_append (e : H45Extend) (msb : Byte) (nibble : BitVec 4) :
    extendH45 e (msb ++ nibble) = if e = .sign ∧ 128 ≤ msb.toNat then ((msb.toNat * 16 + nibble.toNat : Nat) : Int) - 4096
      else msb.toNat * 16 + nibble.toNat := by
  cases e with
  | sign =>
    simp only [extendH45, sext, BitVec.toInt_eq_toNat_cond, toNat_append_eq, true_and]
    split <;> split <;> omega
  | zero =>
    rw [extendH45, zext, toNat_append_eq, if_neg (by simp)]
    rfl

/-- Settles O29. -/
theorem calibrationValuesFromBytes : Obligations.CalibrationValuesFromBytes := by
  unfold Obligations.CalibrationValuesFromBytes
  intro lo hi msb shared e
  refine ⟨?unsigned, sext_word hi lo, ?h4, ?h5⟩
  case unsigned => rw [zext, toNat_append_eq]; omega
  case h4 => rw [extendH45_append, toNat_lowNibble]; rfl
  case h5 => rw [extendH45_append, toNat_highNibble]; rfl

/-- Settles O51. -/
theorem rawValuesFromTheBurst : Obligations.RawValuesFromTheBurst := by
  unfold Obligations.RawValuesFromTheBurst
  intro b0 b1 b2
  rw [raw20, raw16, toNat_append_eq, toNat_append_eq, toNat_highNibble]
  omega

/-! ### The clamp and the scaling of humidity (rules R205 and R206) -/

/-- The clamp by the lattice operations. -/
theorem humidityQ_eq (x : Int) : humidityQ x = min (max x 0) 419430400 / 4096 := by
  unfold humidityQ lsr clamp
  split
  · omega
  · split <;> omega

theorem humidityQ_range (x : Int) : 0 ≤ humidityQ x ∧ humidityQ x ≤ 102400 := by
  rw [humidityQ_eq]
  omega

theorem humidityOut_range (x : Int) : 0 ≤ humidityOut (humidityQ x) ∧ humidityOut (humidityQ x) ≤ 10000 := by
  have hq := humidityQ_range x
  rw [humidityOut]
  omega

/-- Settles O55. -/
theorem humidityClampAndScaling : Obligations.HumidityClampAndScaling := by
  unfold Obligations.HumidityClampAndScaling
  intro x
  have hrange := humidityOut_range x
  rw [humidityQ_eq, humidityOut] at hrange ⊢
  refine ⟨?below, ?inside, ?above, hrange⟩ <;> omega

/-! ### The bound of the measurement time (rule R190) -/

theorem osrMult_le (code : BitVec 3) : osrMult code ≤ 16 := by
  revert code; decide

theorem standbyMicros_le (code : BitVec 3) : standbyMicros code ≤ 1000000 := by
  revert code; decide

theorem enabled_le (code : BitVec 3) : enabled code ≤ 1 := by
  revert code; decide

/-- Bits [7:2] of ctrl_meas are both oversampling codes. -/
theorem osrs_eq_zero {b : Byte} (h : b.extractLsb' 2 6 = 0#6) : fieldOf shiftOsrsT b = 0 ∧ fieldOf shiftOsrsP b = 0 := by
  revert b; decide

/-- Settles O45: each term of the estimate is bounded by its table's largest entry, and is 0 for code 0. -/
theorem measTimeIsBounded : Obligations.MeasTimeIsBounded := by
  unfold Obligations.MeasTimeIsBounded
  refine fun cfg ctrlMeas ctrlHum config prec => ⟨?bound, fun hmeas hhum hstandby => ?base⟩
  case bound =>
    have hmultT := osrMult_le (fieldOf shiftOsrsT ctrlMeas)
    have hmultP := osrMult_le (fieldOf shiftOsrsP ctrlMeas)
    have hmultH := osrMult_le (fieldOf shiftOsrsH ctrlHum)
    have henabledT := enabled_le (fieldOf shiftOsrsT ctrlMeas)
    have henabledP := enabled_le (fieldOf shiftOsrsP ctrlMeas)
    have henabledH := enabled_le (fieldOf shiftOsrsH ctrlHum)
    have hstandby := standbyMicros_le (fieldOf shiftStandby config)
    simp only [measMicros, baseMicros, unitMicros, fixedMicros]
    split_ifs <;> omega
  case base =>
    obtain ⟨hcodeT, hcodeP⟩ := osrs_eq_zero hmeas
    have hcodeH : fieldOf shiftOsrsH ctrlHum = 0 := hhum
    simp [measMicros, hcodeT, hcodeP, hcodeH, hstandby, baseMicros, osrMult, enabled]

end Sys2Proof.Machine
end

section
/-! The compensation datapath: under `wrap` it is the two's-complement computation of its width (43_compensation.md rules R203
to R208). -/

namespace Sys2Proof.Machine

open Sys2Proof.Config Sys2Proof.Safety

variable (c : Calibration)

/-! ### Temperature (rule R203) -/

/-- Settles O52: each primitive of COMP_T is the operation on 32-bit patterns. -/
theorem temperatureIsThe32BitDatapath : Obligations.TemperatureIsThe32BitDatapath := by
  unfold Obligations.TemperatureIsThe32BitDatapath
  intro c adcT
  have h32 : 0 < 32 := by decide
  rw [compTFine, zext_eq_toInt_32 (by decide) adcT, zext_eq_toInt_32 (by decide) c.digT1, sext_eq_toInt (m := 32) (by decide) c.digT2,
    sext_eq_toInt (m := 32) (by decide) c.digT3, asr_toInt, asr_toInt,
    bind_of_eq_some (shl_wrap_toInt h32 _ _), bind_of_eq_some (sub_wrap_toInt h32 _ _), bind_of_eq_some (mul_wrap_toInt h32 _ _),
    bind_of_eq_some (sub_wrap_toInt h32 _ _), bind_of_eq_some (mul_wrap_toInt h32 _ _), asr_toInt,
    bind_of_eq_some (mul_wrap_toInt h32 _ _), asr_toInt, asr_toInt, add_wrap_toInt h32]
  rfl

/-! ### Pressure (rule R204) -/

/-- The 64-bit terms of COMP_P before its guard. -/
theorem pressureTerms_wrap (tfine : BitVec 64) :
    pressureTerms .wrap c tfine.toInt = some ((pressureV2 c tfine).toInt, (pressureDen c tfine).toInt) := by
  have h64 : 0 < 64 := by decide
  rw [pressureTerms, show (128000 : Int) = (128000#64).toInt by decide, show (2 ^ 47 : Int) = (0x800000000000#64).toInt by decide,
    zext_eq_toInt_64 (by decide) c.digP1, sext_eq_toInt (m := 64) (by decide) c.digP2, sext_eq_toInt (m := 64) (by decide) c.digP3,
    sext_eq_toInt (m := 64) (by decide) c.digP4, sext_eq_toInt (m := 64) (by decide) c.digP5, sext_eq_toInt (m := 64) (by decide) c.digP6,
    bind_of_eq_some (sub_wrap_toInt h64 _ _),
    bind_of_eq_some (mul_wrap_toInt h64 _ _), bind_of_eq_some (mul_wrap_toInt h64 _ _),
    bind_of_eq_some (mul_wrap_toInt h64 _ _), bind_of_eq_some (shl_wrap_toInt h64 _ _), bind_of_eq_some (add_wrap_toInt h64 _ _),
    bind_of_eq_some (shl_wrap_toInt h64 _ _), bind_of_eq_some (add_wrap_toInt h64 _ _),
    bind_of_eq_some (mul_wrap_toInt h64 _ _), bind_of_eq_some (mul_wrap_toInt h64 _ _), asr_toInt,
    bind_of_eq_some (mul_wrap_toInt h64 _ _), bind_of_eq_some (shl_wrap_toInt h64 _ _), bind_of_eq_some (add_wrap_toInt h64 _ _),
    bind_of_eq_some (add_wrap_toInt h64 _ _), bind_of_eq_some (mul_wrap_toInt h64 _ _), asr_toInt]
  rfl

/-- COMP_P's final 64-bit value over patterns, from v2 and the denominator. -/
def pressure64 (adcP : BitVec 20) (v2 den : BitVec 64) : BitVec 64 :=
  let p := (((1048576#64 - adcP.setWidth 64) <<< 31 - v2) * 3125#64).sdiv den
  let w1 := (c.digP9.signExtend 64 * p.sshiftRight 13 * p.sshiftRight 13).sshiftRight 25
  let w2 := (c.digP8.signExtend 64 * p).sshiftRight 19
  (p + w1 + w2).sshiftRight 8 + (c.digP7.signExtend 64 <<< 4)

/-- The statements' 32-bit pressure is its low half, or 0 where the denominator is 0. -/
theorem pressure32_eq (adcP : BitVec 20) (tfine : BitVec 64) :
    pressure32 c adcP tfine =
      if pressureDen c tfine = 0 then 0 else (pressure64 c adcP (pressureV2 c tfine) (pressureDen c tfine)).setWidth 32 := rfl

/-- 1048576 - adcP is exact: no check is needed. -/
theorem pressureStart_eq (adcP : BitVec 20) : 1048576 - zext adcP = (1048576#64 - adcP.setWidth 64).toInt := by
  have hadc := adcP.isLt
  have hstart : (1048576#64).toInt = 1048576 := by decide
  rw [BitVec.toInt_sub, hstart, ← zext_eq_toInt_64 (by decide) adcP, zext, Int.bmod_eq_of_le] <;> omega

theorem pressureOf_wrap (adcP : BitVec 20) (v2 den : BitVec 64) :
    pressureOf .wrap c (zext adcP) v2.toInt den.toInt = some (pressure64 c adcP v2 den).toInt := by
  have h64 : 0 < 64 := by decide
  rw [pressureOf, pressureStart_eq, show (3125 : Int) = (3125#64).toInt by decide,
    sext_eq_toInt (m := 64) (by decide) c.digP7, sext_eq_toInt (m := 64) (by decide) c.digP8, sext_eq_toInt (m := 64) (by decide) c.digP9,
    bind_of_eq_some (shl_wrap_toInt h64 _ _), bind_of_eq_some (sub_wrap_toInt h64 _ _), bind_of_eq_some (mul_wrap_toInt h64 _ _),
    bind_of_eq_some (tdiv64_wrap_toInt _ _), asr_toInt,
    bind_of_eq_some (mul_wrap_toInt h64 _ _), bind_of_eq_some (mul_wrap_toInt h64 _ _), asr_toInt,
    bind_of_eq_some (mul_wrap_toInt h64 _ _), asr_toInt,
    bind_of_eq_some (add_wrap_toInt h64 _ _), bind_of_eq_some (add_wrap_toInt h64 _ _), asr_toInt,
    bind_of_eq_some (shl_wrap_toInt h64 _ _), add_wrap_toInt h64]
  rfl

/-- u32 of a 64-bit value is its low half. -/
theorem u32_toInt (x : BitVec 64) : u32 x.toInt = (x.setWidth 32).toNat := by
  rw [u32, BitVec.toNat_setWidth, BitVec.toInt_eq_toNat_bmod, Int.bmod_def]
  push_cast
  omega

theorem lsr_toNat {w : Nat} (x : BitVec w) (k : Nat) : lsr x.toNat k = (x >>> k).toNat := by
  rw [lsr, BitVec.toNat_ushiftRight, Nat.shiftRight_eq_div_pow]
  norm_cast

/-- The guard of a denominator given as a pattern. -/
theorem guardOf_toInt (den : BitVec 64) : guardOf den.toInt = decide (den = 0) := by
  simp only [guardOf, ← BitVec.toInt_inj]
  rfl

/-- COMP_P reports a zero denominator and otherwise computes on. -/
theorem compP_of_terms {p : OvfPolicy} {c : Calibration} {adcP tfine v2 den : Int} (h : pressureTerms p c tfine = some (v2, den)) :
    compP p c adcP tfine = if guardOf den = true then some ⟨0, 0, true⟩
      else (pressureOf p c adcP v2 den).map fun q => ⟨u32 q, lsr (u32 q) 8, false⟩ := by
  rw [compP, bind_of_eq_some h]
  show (if guardOf den = true then _ else _) = _
  congr 1
  cases pressureOf p c adcP v2 den <;> rfl

/-- Settles O53. -/
theorem pressureIsThe64BitDatapath : Obligations.PressureIsThe64BitDatapath := by
  unfold Obligations.PressureIsThe64BitDatapath
  intro c adcP tfine
  rw [compP_of_terms (pressureTerms_wrap c tfine), guardOf_toInt, pressure32_eq, pressureOf_wrap]
  by_cases hden : pressureDen c tfine = 0
  · simp [hden]
  · simp only [hden, decide_false, Bool.false_eq_true, if_false, Option.map_some, u32_toInt, lsr_toNat]

/-! ### Humidity (rules R205 and R206) -/

theorem extendH45_eq_toInt (e : H45Extend) (v : BitVec 12) : extendH45 e v = (h45In32 e v).toInt := by
  cases e with
  | sign => exact sext_eq_toInt (m := 32) (by decide) v
  | zero => exact zext_eq_toInt_32 (by decide) v

theorem humidityA_wrap (e : H45Extend) (adcH : BitVec 16) (x : BitVec 32) :
    humidityA .wrap e c (zext adcH) x.toInt = some (humidityA32 e c adcH x).toInt := by
  have h32 : 0 < 32 := by decide
  rw [humidityA, zext_eq_toInt_32 (by decide) adcH, extendH45_eq_toInt, extendH45_eq_toInt,
    show (16384 : Int) = (16384#32).toInt by decide,
    bind_of_eq_some (shl_wrap_toInt h32 _ _), bind_of_eq_some (shl_wrap_toInt h32 _ _), bind_of_eq_some (sub_wrap_toInt h32 _ _),
    bind_of_eq_some (mul_wrap_toInt h32 _ _), bind_of_eq_some (sub_wrap_toInt h32 _ _), bind_of_eq_some (add_wrap_toInt h32 _ _),
    asr_toInt]
  rfl

theorem humidityB_wrap (x : BitVec 32) : humidityB .wrap c x.toInt = some (humidityB32 c x).toInt := by
  have h32 : 0 < 32 := by decide
  rw [humidityB, zext_eq_toInt_32 (by decide) c.digH3, sext_eq_toInt (m := 32) (by decide) c.digH6, sext_eq_toInt (m := 32) (by decide) c.digH2,
    show (32768 : Int) = (32768#32).toInt by decide, show (2097152 : Int) = (2097152#32).toInt by decide,
    show (8192 : Int) = (8192#32).toInt by decide,
    bind_of_eq_some (mul_wrap_toInt h32 _ _), asr_toInt, bind_of_eq_some (mul_wrap_toInt h32 _ _), asr_toInt,
    bind_of_eq_some (add_wrap_toInt h32 _ _), bind_of_eq_some (mul_wrap_toInt h32 _ _), asr_toInt,
    bind_of_eq_some (add_wrap_toInt h32 _ _), bind_of_eq_some (mul_wrap_toInt h32 _ _),
    bind_of_eq_some (add_wrap_toInt h32 _ _), asr_toInt]
  rfl

/-- `tfine` is a 32-bit value already. -/
theorem wrap_toInt {w : Nat} (hw : 0 < w) (x : BitVec w) : wrap w x.toInt = x.toInt := by
  rw [wrap_eq_toInt_ofInt hw, BitVec.ofInt_toInt]

/-- Settles O54. -/
theorem humidityIsThe32BitDatapath : Obligations.HumidityIsThe32BitDatapath := by
  unfold Obligations.HumidityIsThe32BitDatapath
  intro e c adcH tfine
  have h32 : 0 < 32 := by decide
  rw [humidityOf, wrap_toInt h32, zext_eq_toInt_32 (by decide) c.digH1, show (76800 : Int) = (76800#32).toInt by decide,
    bind_of_eq_some (sub_wrap_toInt h32 _ _), bind_of_eq_some (humidityA_wrap c e adcH _), bind_of_eq_some (humidityB_wrap c _),
    bind_of_eq_some (mul_wrap_toInt h32 _ _), asr_toInt, bind_of_eq_some (mul_wrap_toInt h32 _ _), asr_toInt,
    bind_of_eq_some (mul_wrap_toInt h32 _ _), asr_toInt, sub_wrap_toInt h32]
  rfl

end Sys2Proof.Machine
end

section
/-! The results of a burst: what they depend on, their ranges, and the overflow policies (00_scope.md rule R12,
43_compensation.md rules R200 to R209, 60_exceptions.md rules R262 and R269). -/

namespace Sys2Proof.Machine

open Sys2Proof.Config Sys2Proof.Safety

variable {pol : OvfPolicy} {c : Calibration} {cfg : Params} {d : BurstData} {r : Results} {adcP adcT tfine : Int}

/-! ### What the compensation computes -/

/-- The first step of a computation that has a value. Like `bind_of_eq_some` it speaks of `>>=` itself, so that no proof
compares two computations by evaluating them. -/
theorem eq_some_of_bind {α β : Type} {m : Option α} {f : α → Option β} {b : β} (h : (m >>= f) = some b) :
    ∃ a, m = some a ∧ f a = some b := Option.bind_eq_some_iff.1 h

/-- The result registers of a burst, from the values of the three compensations. -/
def resultsOf (d : BurstData) (tfine : Int) (pr : Pressure) (x : Int) : Results where
  adcP := raw20 d.b0 d.b1 d.b2
  adcT := raw20 d.b3 d.b4 d.b5
  adcH := raw16 d.b6 d.b7
  tFine := BitVec.ofInt 64 tfine
  tOut := BitVec.ofInt 32 (tempOut tfine)
  pQ24_8 := BitVec.ofInt 32 pr.q24_8
  pOut := BitVec.ofInt 32 pr.pascals
  hQ22_10 := BitVec.ofInt 32 (humidityQ x)
  hOut := BitVec.ofInt 32 (humidityOut (humidityQ x))
  pGuard := pr.guard

/-- The three compensations have values, and `r` holds them. -/
structure Compensated (cfg : Params) (c : Calibration) (d : BurstData) (tfine : Int) (pr : Pressure) (x : Int) : Prop where
  temperature : compTFine cfg.ovfPolicy c (zext (raw20 d.b3 d.b4 d.b5)) = some tfine
  pressure : compP cfg.ovfPolicy c (zext (raw20 d.b0 d.b1 d.b2)) tfine = some pr
  humidity : humidityOf cfg.ovfPolicy cfg.h45Extend c (zext (raw16 d.b6 d.b7)) tfine = some x

theorem compensate_of_compensated {pr : Pressure} {x : Int} (h : Compensated cfg c d tfine pr x) :
    compensate cfg c d = some (resultsOf d tfine pr x) := by
  rw [compensate, bind_of_eq_some h.temperature, bind_of_eq_some h.pressure, bind_of_eq_some h.humidity]
  rfl

theorem compensated_of_compensate (h : compensate cfg c d = some r) :
    ∃ tfine pr x, Compensated cfg c d tfine pr x ∧ r = resultsOf d tfine pr x := by
  rw [compensate] at h
  obtain ⟨tfine, htemperature, h⟩ := eq_some_of_bind h
  obtain ⟨pr, hpressure, h⟩ := eq_some_of_bind h
  obtain ⟨x, hhumidity, h⟩ := eq_some_of_bind h
  exact ⟨tfine, pr, x, ⟨htemperature, hpressure, hhumidity⟩, (Option.some.inj h).symm⟩

/-- Settles O60: each compensation is a function of its own raw value and of tFine. -/
theorem resultsDependOnTheirOwnBytes : Obligations.ResultsDependOnTheirOwnBytes := by
  unfold Obligations.ResultsDependOnTheirOwnBytes
  intro cfg c d d' r r' hr hr' h3 h4 h5
  obtain ⟨tfine, pr, x, hd, rfl⟩ := compensated_of_compensate hr
  obtain ⟨tfine', pr', x', hd', rfl⟩ := compensated_of_compensate hr'
  have htfine : some tfine = some tfine' := by rw [← hd.temperature, ← hd'.temperature, h3, h4, h5]
  obtain rfl := Option.some.inj htfine
  refine ⟨rfl, rfl, fun h0 h1 h2 => ?pressure, fun h6 h7 => ?humidity⟩
  case pressure =>
    have hpr : some pr = some pr' := by rw [← hd.pressure, ← hd'.pressure, h0, h1, h2]
    obtain rfl := Option.some.inj hpr
    exact ⟨rfl, rfl, rfl⟩
  case humidity =>
    have hx : some x = some x' := by rw [← hd.humidity, ← hd'.humidity, h6, h7]
    obtain rfl := Option.some.inj hx
    exact ⟨rfl, rfl⟩

/-! ### The output ranges (rule R209) -/

/-- tFine is a 32-bit value: it is the answer of a 32-bit addition. -/
theorem compTFine_range (h : compTFine pol c adcT = some tfine) : -(2 ^ 31) ≤ tfine ∧ tfine < 2 ^ 31 := by
  rw [compTFine] at h
  obtain ⟨_, _, h⟩ := eq_some_of_bind h
  obtain ⟨_, _, h⟩ := eq_some_of_bind h
  obtain ⟨_, _, h⟩ := eq_some_of_bind h
  obtain ⟨_, _, h⟩ := eq_some_of_bind h
  obtain ⟨_, _, h⟩ := eq_some_of_bind h
  obtain ⟨_, _, h⟩ := eq_some_of_bind h
  exact checked_range (w := 32) (by decide) h

/-- Where COMP_P has a value, so have its terms before the guard. -/
theorem exists_pressureTerms_of_compP {pr : Pressure} (h : compP pol c adcP tfine = some pr) :
    ∃ terms, pressureTerms pol c tfine = some terms := by
  rw [compP] at h
  obtain ⟨terms, hterms, _⟩ := eq_some_of_bind h
  exact ⟨terms, hterms⟩

/-- Whole pascals fit 24 bits; a guarded pressure is 0 in both registers. -/
theorem compP_range {pr : Pressure} (h : compP pol c adcP tfine = some pr) :
    0 ≤ pr.pascals ∧ pr.pascals < 2 ^ 24 ∧ (pr.guard = true → pr.q24_8 = 0 ∧ pr.pascals = 0) := by
  obtain ⟨⟨v2, den⟩, hterms⟩ := exists_pressureTerms_of_compP h
  rw [compP_of_terms hterms] at h
  split at h
  · cases h
    decide
  · obtain ⟨q, _, rfl⟩ := Option.map_eq_some_iff.1 h
    have hq : 0 ≤ u32 q ∧ u32 q < 2 ^ 32 := ⟨Int.emod_nonneg _ (by decide), Int.emod_lt_of_pos _ (by decide)⟩
    simp only [lsr]
    refine ⟨by omega, by omega, by simp⟩

theorem tempOut_range (h : -(2 ^ 31) ≤ tfine ∧ tfine < 2 ^ 31) : -41943040 ≤ tempOut tfine ∧ tempOut tfine ≤ 41943040 := by
  unfold tempOut asr
  omega

/-- A value in the signed range of its register is what the register holds. -/
theorem toInt_ofInt_of_range {w : Nat} (hw : 0 < w) {v : Int} (h : -(2 ^ (w - 1)) ≤ v ∧ v < 2 ^ (w - 1)) :
    (BitVec.ofInt w v).toInt = v := by
  rw [← wrap_eq_toInt_ofInt hw, wrap_of_inWidth hw (inWidth_iff.2 h)]

/-- A value in the unsigned range of its register is what the register holds. -/
theorem toNat_ofInt_of_range {w : Nat} {v : Int} (h : 0 ≤ v ∧ v < 2 ^ w) : ((BitVec.ofInt w v).toNat : Int) = v := by
  rw [BitVec.toNat_ofInt, Int.toNat_of_nonneg (Int.emod_nonneg _ (by positivity))]
  push_cast
  exact Int.emod_eq_of_lt h.1 h.2

/-- Rule R209's ranges hold of the results of every burst. -/
theorem resultsOk_of_compensate {s : State} (h : compensate cfg c d = some s.results) : resultsOk s = true := by
  obtain ⟨tfine, pr, x, hd, hr⟩ := compensated_of_compensate h
  have htfine := compTFine_range hd.temperature
  have htout := tempOut_range htfine
  obtain ⟨hpascals0, hpascals, hguard⟩ := compP_range hd.pressure
  have hq := humidityQ_range x
  have hout := humidityOut_range x
  have htfine64 : (BitVec.ofInt 64 tfine).toInt = tfine := toInt_ofInt_of_range (by decide) (by omega)
  have htout32 : (BitVec.ofInt 32 (tempOut tfine)).toInt = tempOut tfine := toInt_ofInt_of_range (by decide) (by omega)
  have hpout32 := toNat_ofInt_of_range (w := 32) (v := pr.pascals) (by omega)
  have hq32 := toNat_ofInt_of_range (w := 32) (v := humidityQ x) (by omega)
  have hout32 := toNat_ofInt_of_range (w := 32) (v := humidityOut (humidityQ x)) (by omega)
  rw [resultsOk, hr, decide_eq_true_iff]
  simp only [resultsOf, htfine64, htout32]
  refine ⟨htout.1, htout.2, htfine.1, htfine.2, by omega, by omega, by omega, fun hg => ?_⟩
  rw [(hguard hg).1, (hguard hg).2]
  decide

/-- A command's step leaves the results as they are or writes those of a burst. -/
theorem resultsOk_exec {s t : State} {i : Instr} (hs : resultsOk s = true) (h : exec i s = .next t) : resultsOk t = true := by
  rcases exec_results h with ⟨hresults, _⟩ | ⟨_, _, _, _, d, hd⟩
  · rw [resultsOk, hresults]
    exact hs
  · exact resultsOk_of_compensate hd

/-- Settles O19. -/
theorem resultRangesAreKept : Obligations.ResultRangesAreKept := by
  unfold Obligations.ResultRangesAreKept
  exact fun s t => step_keeps (P := fun u => resultsOk u = true) resultsOk_exec id fun _ => id

/-! ### The overflow policies (rules R12 and R262) -/

/-- `m'` has the value of `m` wherever `m` has one. -/
def Refines {α : Type} (m m' : Option α) : Prop := ∀ a, m = some a → m' = some a

theorem refines_refl {α : Type} (m : Option α) : Refines m m := fun _ h => h

theorem refines_bind {α β : Type} {m m' : Option α} {f f' : α → Option β} (hm : Refines m m') (hf : ∀ a, Refines (f a) (f' a)) :
    Refines (m >>= f) (m' >>= f') := by
  intro b h
  obtain ⟨a, ha, hb⟩ := eq_some_of_bind h
  rw [bind_of_eq_some (hm a ha)]
  exact hf a b hb

/-- Where a primitive answers, `wrap` answers the same. -/
theorem checked_refines (pol : OvfPolicy) {w : Nat} (hw : 0 < w) (r : Int) : Refines (checked pol w r) (checked .wrap w r) := by
  cases pol with
  | wrap => exact refines_refl _
  | fault => exact fun _ => checked_fault_imp_wrap hw

theorem compTFine_refines (pol : OvfPolicy) (c : Calibration) (adcT : Int) :
    Refines (compTFine pol c adcT) (compTFine .wrap c adcT) := by
  unfold compTFine
  iterate 6 refine refines_bind (checked_refines pol (by decide) _) fun _ => ?_
  exact checked_refines pol (by decide) _

theorem pressureTerms_refines (pol : OvfPolicy) (c : Calibration) (tfine : Int) :
    Refines (pressureTerms pol c tfine) (pressureTerms .wrap c tfine) := by
  unfold pressureTerms
  iterate 15 refine refines_bind (checked_refines pol (by decide) _) fun _ => ?_
  exact refines_refl _

theorem pressureOf_refines (pol : OvfPolicy) (c : Calibration) (adcP v2 den : Int) :
    Refines (pressureOf pol c adcP v2 den) (pressureOf .wrap c adcP v2 den) := by
  unfold pressureOf
  iterate 10 refine refines_bind (checked_refines pol (by decide) _) fun _ => ?_
  exact checked_refines pol (by decide) _

theorem compP_refines (pol : OvfPolicy) (c : Calibration) (adcP tfine : Int) :
    Refines (compP pol c adcP tfine) (compP .wrap c adcP tfine) := by
  unfold compP
  refine refines_bind (pressureTerms_refines pol c tfine) fun ⟨v2, den⟩ => ?_
  dsimp only
  split
  · exact refines_refl _
  · exact refines_bind (pressureOf_refines pol c adcP v2 den) fun _ => refines_refl _

theorem humidityA_refines (pol : OvfPolicy) (e : H45Extend) (c : Calibration) (adcH x : Int) :
    Refines (humidityA pol e c adcH x) (humidityA .wrap e c adcH x) := by
  unfold humidityA
  iterate 6 refine refines_bind (checked_refines pol (by decide) _) fun _ => ?_
  exact refines_refl _

theorem humidityB_refines (pol : OvfPolicy) (c : Calibration) (x : Int) : Refines (humidityB pol c x) (humidityB .wrap c x) := by
  unfold humidityB
  iterate 7 refine refines_bind (checked_refines pol (by decide) _) fun _ => ?_
  exact refines_refl _

theorem humidityOf_refines (pol : OvfPolicy) (e : H45Extend) (c : Calibration) (adcH tfine : Int) :
    Refines (humidityOf pol e c adcH tfine) (humidityOf .wrap e c adcH tfine) := by
  unfold humidityOf
  refine refines_bind (checked_refines pol (by decide) _) fun x => ?_
  refine refines_bind (humidityA_refines pol e c adcH x) fun _ => ?_
  refine refines_bind (humidityB_refines pol c x) fun _ => ?_
  iterate 3 refine refines_bind (checked_refines pol (by decide) _) fun _ => ?_
  exact checked_refines pol (by decide) _

/-- Without an overflow, `fault` computes what `wrap` computes. -/
theorem compensate_wrap_of_eq_some (h : compensate cfg c d = some r) :
    compensate { cfg with ovfPolicy := .wrap } c d = some r := by
  obtain ⟨tfine, pr, x, hd, rfl⟩ := compensated_of_compensate h
  exact compensate_of_compensated ⟨compTFine_refines _ _ _ _ hd.temperature, compP_refines _ _ _ _ _ hd.pressure,
    humidityOf_refines _ _ _ _ _ _ hd.humidity⟩

/-! ### The overflow events of COMP_T (rule R203) -/

/-- Under `fault` a step that is in range goes on with its exact result. -/
theorem bind_checked_of_range {β : Type} {w : Nat} {v : Int} (h : -(2 ^ (w - 1)) ≤ v ∧ v < 2 ^ (w - 1)) (f : Int → Option β) :
    (checked .fault w v >>= f) = f v :=
  bind_of_eq_some (checked_of_inWidth .fault (inWidth_iff.2 h)) f

/-- Under `fault` a checked step followed by a computation has no value exactly where the step overflows or the computation
has none. -/
theorem bind_checked_eq_none_iff {β : Type} {w : Nat} {v : Int} {f : Int → Option β} {P : Prop} (hf : f v = none ↔ ¬ P) :
    (checked .fault w v >>= f) = none ↔ ¬ ((-(2 ^ (w - 1)) ≤ v ∧ v < 2 ^ (w - 1)) ∧ P) := by
  by_cases h : -(2 ^ (w - 1)) ≤ v ∧ v < 2 ^ (w - 1)
  · rw [bind_checked_of_range h, hf]
    simp [h]
  · rw [checked_fault_eq_none_iff.2 h]
    simp only [h, false_and, not_false_iff, iff_true]
    rfl

/-- Settles O58: the shift and the two subtractions stay in range, the products and the sum are the other steps. -/
theorem temperatureOverflowEvents : Obligations.TemperatureOverflowEvents := by
  unfold Obligations.TemperatureOverflowEvents
  intro c adcT a1 d in32
  have hadc := adcT.isLt
  have hT1 := c.digT1.isLt
  have ha1 : asr (zext adcT) 3 - zext c.digT1 * 2 ^ 1 = a1 := by simp only [asr, zext, a1]; omega
  have hd : asr (zext adcT) 4 - zext c.digT1 = d := by simp only [asr, zext, d]; omega
  rw [compTFine, shl, bind_checked_of_range (by simp only [zext]; omega), sub, bind_checked_of_range (by rw [ha1]; omega), ha1]
  refine bind_checked_eq_none_iff ?_
  rw [sub, bind_checked_of_range (by rw [hd]; omega), hd]
  refine bind_checked_eq_none_iff (bind_checked_eq_none_iff ?_)
  exact checked_fault_eq_none_iff

/-! ### A zero denominator (rules R204 and R269) -/

/-- With dig_P1 = 0 the denominator is 0. -/
theorem den_eq_zero_of_digP1 {v2 den : Int} (hP1 : c.digP1 = 0#16) (h : pressureTerms pol c tfine = some (v2, den)) : den = 0 := by
  rw [pressureTerms] at h
  iterate 14 obtain ⟨_, _, h⟩ := eq_some_of_bind h
  obtain ⟨v, hv, h⟩ := eq_some_of_bind h
  have hzero : v = 0 := by
    rw [mul, hP1, zext, BitVec.toNat_ofNat, Nat.zero_mod, Nat.cast_zero, mul_zero, checked_of_inWidth _ (by decide)] at hv
    exact (Option.some.inj hv).symm
  rw [← (Prod.mk.inj (Option.some.inj h)).2, hzero]
  rfl

theorem compP_of_digP1 {pr : Pressure} (hP1 : c.digP1 = 0#16) (h : compP pol c adcP tfine = some pr) : pr = ⟨0, 0, true⟩ := by
  obtain ⟨⟨v2, den⟩, hterms⟩ := exists_pressureTerms_of_compP h
  rw [compP_of_terms hterms, den_eq_zero_of_digP1 hP1 hterms] at h
  exact (Option.some.inj h).symm

/-- COMP_T uses the temperature constants alone. -/
theorem compTFine_congr {c c' : Calibration} (h1 : c.digT1 = c'.digT1) (h2 : c.digT2 = c'.digT2) (h3 : c.digT3 = c'.digT3) :
    compTFine pol c adcT = compTFine pol c' adcT := by
  rw [compTFine, compTFine, h1, h2, h3]

/-- COMP_H uses the humidity constants alone. -/
theorem humidityOf_congr {c c' : Calibration} {e : H45Extend} {adcH : Int} (h1 : c.digH1 = c'.digH1) (h2 : c.digH2 = c'.digH2)
    (h3 : c.digH3 = c'.digH3) (h4 : c.digH4 = c'.digH4) (h5 : c.digH5 = c'.digH5) (h6 : c.digH6 = c'.digH6) :
    humidityOf pol e c adcH tfine = humidityOf pol e c' adcH tfine := by
  unfold humidityOf humidityA humidityB
  rw [h1, h2, h3, h4, h5, h6]

end Sys2Proof.Machine
end

section
/-! READ_SENSORS: the poll, the burst and the commit (43_compensation.md rules R200 to R208, 70_reset_and_hazards.md rule
R300). -/

namespace Sys2Proof.Machine

open Sys2Proof.Config Sys2Proof.Safety

variable {s t u : State} {i : Instr} {w : CmdWord} {k p n : Nat} {st d : BurstData}

/-! ### What the body does, one equation a case -/

/-- An executing READ_SENSORS goes on with its body. -/
theorem exec_readSensors_of_busy (hseq : s.seq = .busy w k p) : exec .readSensors s = sensorsBody s :=
  dispatched_of_busy hseq

/-- The machine's reading of a status answer is the statements'. -/
theorem answersIdle_eq_foundIdle (a : Answer) : answersIdle a = foundIdle a := by
  cases a with
  | fail => rfl
  | ok d => simp [answersIdle, foundIdle, statusBusy, burstByte]

/-- A status read of a busy engine: pollCount grows, and `step` goes on where the device was idle (rule R41). -/
theorem poll_of_busy (hseq : s.seq = .busy w k p) :
    s.poll = asked s s.tsel (.read s.cfg.statusAddr .one) []
      (.busy w (if foundIdle (s.ask s.tsel (.read s.cfg.statusAddr .one)) then k + 1 else k) (p + 1)) := by
  rw [← answersIdle_eq_foundIdle]
  simp only [State.poll, hseq]
  rfl

/-- A failed status read or burst ends the command. -/
theorem sensorsBody_of_fail (hlatch : s.latch = [.fail] ∨ s.latch = [.ok st, .fail]) :
    sensorsBody s = .next (s.raise .busFailure) := by
  rcases hlatch with hlatch | hlatch <;> simp only [sensorsBody, hlatch]

/-- A busy status is read again while POLL_LIMIT allows. -/
theorem sensorsBody_of_busyStatus (hlatch : s.latch = [.ok st]) (hbusy : statusBusy st.b0 = true)
    (hlimit : pollLimitReached s.cfg.pollLimit s.seq.polls = false) : sensorsBody s = .next s.poll := by
  simp only [sensorsBody, hlatch, burstByte, hbusy, hlimit, if_true, Bool.false_eq_true, if_false]

/-- After an idle status the burst is read. -/
theorem sensorsBody_of_idleStatus (hlatch : s.latch = [.ok st]) (hidle : statusBusy st.b0 = false) :
    sensorsBody s = .next (s.transact s.tsel (.read addrData .eight)) := by
  simp only [sensorsBody, hlatch, burstByte, hidle, Bool.false_eq_true, if_false]

/-- After the burst the command concludes with the compensation. -/
theorem sensorsBody_of_burst (hlatch : s.latch = [.ok st, .ok d]) :
    sensorsBody s = s.conclude st.b0 (compensate s.cfg s.cal d) := by
  simp only [sensorsBody, hlatch, burstByte]

/-- POLL_LIMIT is not reached while it is larger than the poll count. -/
theorem pollLimitReached_eq_false {limit : Option Nat} (h : ∀ n, limit = some n → p < n) : pollLimitReached limit p = false := by
  cases limit with
  | none => rfl
  | some n => exact decide_eq_false (Nat.not_le.2 (h n rfl))

/-- After a busy status with POLL_LIMIT not reached, the next step reads the status again. -/
theorem exec_readSensors_of_busyStatus (hseq : s.seq = .busy w k p) (hlatch : s.latch = [.ok st])
    (hbusy : st.b0 &&& 0x09#8 ≠ 0#8) (hlimit : ∀ n, s.cfg.pollLimit = some n → p < n) :
    exec .readSensors s = .next (asked s s.tsel (.read s.cfg.statusAddr .one) []
      (.busy w (if foundIdle (s.ask s.tsel (.read s.cfg.statusAddr .one)) then k + 1 else k) (p + 1))) := by
  have hpolls : pollLimitReached s.cfg.pollLimit s.seq.polls = false := by
    rw [hseq]
    exact pollLimitReached_eq_false hlimit
  rw [exec_readSensors_of_busy hseq, sensorsBody_of_busyStatus hlatch (decide_eq_true hbusy) hpolls, poll_of_busy hseq]

/-- Settles O46: the first status read follows the dispatch, a further one a busy status. -/
theorem readSensorsPollsTheStatus : Obligations.ReadSensorsPollsTheStatus := by
  unfold Obligations.ReadSensorsPollsTheStatus
  refine ⟨fun s hseq heng => ?first, fun s w k p st => exec_readSensors_of_busyStatus⟩
  case first =>
    calc exec .readSensors s = sensorsBody (s.start .readSensors) := dispatched_of_ready hseq heng
      _ = .next (s.start .readSensors).poll := rfl
      _ = _ := by rw [poll_of_busy (w := encode .readSensors) (k := 0) (p := 0) rfl]; rfl

/-- Settles O48. -/
theorem readSensorsReadsOneBurst : Obligations.ReadSensorsReadsOneBurst := by
  unfold Obligations.ReadSensorsReadsOneBurst
  refine fun s w k p st hseq => ⟨fun hlatch hidle => ?burst, fun hlatch => ?failed⟩
  case burst =>
    have hstatus : statusBusy st.b0 = false := decide_eq_false (not_not.2 hidle)
    rw [exec_readSensors_of_busy hseq, sensorsBody_of_idleStatus hlatch hstatus, transact_of_busy hseq, hlatch]
    rfl
  case failed => rw [exec_readSensors_of_busy hseq, sensorsBody_of_fail hlatch, raise_eq_failed]; rfl

/-! ### The unbounded poll (rule R300) -/

/-- A run of any machine makes its first step first. -/
theorem core_run_succ {M : Host.Core} {s u : M.State} (h : M.step s = .next u) (n : Nat) : M.run (n + 1) s = M.run n u := by
  simp only [Host.Core.run, h]

/-- A run of the engine makes its first step first. -/
theorem run_succ_of_step (h : step s = .next u) (n : Nat) :
    Host.Core.run Sys2Proof.core (n + 1) s = Host.Core.run Sys2Proof.core n u :=
  core_run_succ (M := Sys2Proof.core) h n

/-- Settles O49, by induction on the answers: each busy answer is one status read more, after which the engine is in the
same situation. -/
theorem unboundedPollHangs : Obligations.UnboundedPollHangs := by
  unfold Obligations.UnboundedPollHangs
  intro l
  induction l with
  | nil =>
    intro rest s w p st _ _ hseq _ _ _ hscript
    exact ⟨s, rfl, hseq, rfl, rfl, rfl, hscript⟩
  | cons a l ih =>
    intro rest s w p st hdecode hlimit hseq hlatch hbusy hanswers hscript
    obtain ⟨⟨d, rfl, hd⟩, hl⟩ := List.forall_mem_cons.1 hanswers
    have hask : s.ask s.tsel (.read s.cfg.statusAddr .one) = .ok d := State.ask_of_script s hscript _ _
    have hstep : step s = .next (asked s s.tsel (.read s.cfg.statusAddr .one) [] (.busy w 0 (p + 1))) := by
      rw [step_eq_exec_of_busy hseq hdecode, exec_readSensors_of_busyStatus hseq hlatch hbusy (by simp [hlimit]), hask,
        foundIdle, decide_eq_false hd]
      rfl
    obtain ⟨t, hrun, htseq, hrsp, hdelivered, hresults, htscript⟩ :=
      ih rest (asked s s.tsel (.read s.cfg.statusAddr .one) [] (.busy w 0 (p + 1))) w (p + 1) d hdecode hlimit rfl
        (by rw [asked, hask]; rfl) hd hl (by rw [asked, hscript]; rfl)
    refine ⟨t, (run_succ_of_step hstep _).trans hrun, ?_, hrsp, hdelivered, hresults, htscript⟩
    rw [htseq, List.length_cons, Nat.add_assoc, Nat.add_comm 1]

/-! ### The end of READ_SENSORS -/

/-- The command ends OK with the results of its burst. -/
theorem exec_readSensors_of_results {r : Results} (hseq : s.seq = .busy w k p) (hlatch : s.latch = [.ok st, .ok d])
    (hr : compensate s.cfg s.cal d = some r) :
    exec .readSensors s = .next (ended { statusMirrored s st.b0 with results := r, resultsWritten := true }
      0 (if r.pGuard then 1 else 0) r.tOut r.pOut r.hOut) := by
  rw [exec_readSensors_of_busy hseq, sensorsBody_of_burst hlatch, hr, State.conclude, commitResults_eq]
  rfl

/-- Settles O57. -/
theorem faultPolicyStopsOrAgreesWithWrap : Obligations.FaultPolicyStopsOrAgreesWithWrap := by
  unfold Obligations.FaultPolicyStopsOrAgreesWithWrap
  refine fun s w k p st d hseq hlatch => ⟨fun hnone => ?stops, fun r hr => ⟨compensate_wrap_of_eq_some hr,
    exec_readSensors_of_results hseq hlatch hr⟩⟩
  case stops =>
    rw [exec_readSensors_of_busy hseq, sensorsBody_of_burst hlatch, hnone, State.conclude, raise_eq_failed]
    rfl

/-- Settles O59: the guard reports pressure 0, and the temperature and humidity are those of any calibration with the same
constants for them. -/
theorem zeroDenominatorIsReportedNotFaulted : Obligations.ZeroDenominatorIsReportedNotFaulted := by
  unfold Obligations.ZeroDenominatorIsReportedNotFaulted
  intro s w k p st d c r r' hseq hlatch hP1 hr hconstants hr'
  have hexec := exec_readSensors_of_results hseq hlatch hr
  obtain ⟨tfine, pr, x, hd, rfl⟩ := compensated_of_compensate hr
  obtain ⟨tfine', pr', x', hd', rfl⟩ := compensated_of_compensate hr'
  obtain rfl := compP_of_digP1 hP1 hd.pressure
  simp only [Calibration.mk.injEq, true_and] at hconstants
  obtain ⟨hT1, hT2, hT3, hH1, hH2, hH3, hH4, hH5, hH6⟩ := hconstants
  have htfine : some tfine = some tfine' := by rw [← hd.temperature, ← hd'.temperature, compTFine_congr hT1 hT2 hT3]
  obtain rfl := Option.some.inj htfine
  have hx : some x = some x' := by rw [← hd.humidity, ← hd'.humidity, humidityOf_congr hH1 hH2 hH3 hH4 hH5 hH6]
  obtain rfl := Option.some.inj hx
  exact ⟨rfl, rfl, rfl, rfl, rfl, hexec⟩

/-- Under `wrap` the compensation has the values of the two's-complement datapath. -/
theorem compensated_wrap {cfg : Params} (hwrap : cfg.ovfPolicy = .wrap) (c : Calibration) (d : BurstData) :
    let tf := tFine32 c (raw20 d.b3 d.b4 d.b5)
    let pq := pressure32 c (raw20 d.b0 d.b1 d.b2) (tf.signExtend 64)
    Compensated cfg c d tf.toInt ⟨pq.toNat, (pq >>> 8).toNat, decide (pressureDen c (tf.signExtend 64) = 0)⟩
      (humidity32 cfg.h45Extend c (raw16 d.b6 d.b7) tf).toInt where
  temperature := by rw [hwrap, temperatureIsThe32BitDatapath]
  pressure := by
    rw [hwrap, ← BitVec.toInt_signExtend_of_le (w := 32) (v := 64) (by decide), pressureIsThe64BitDatapath]
  humidity := by rw [hwrap, humidityIsThe32BitDatapath]

/-- The scaled humidity, from the register that holds the clamped one. -/
theorem ofInt_humidityOut (x : Int) :
    BitVec.ofInt 32 (humidityOut (humidityQ x)) = BitVec.ofNat 32 ((BitVec.ofInt 32 (humidityQ x)).toNat * 100 / 1024) := by
  have hq := toNat_ofInt_of_range (w := 32) (v := humidityQ x) (by have := humidityQ_range x; omega)
  have hout : humidityOut (humidityQ x) = ((BitVec.ofInt 32 (humidityQ x)).toNat * 100 / 1024 : Nat) := by
    rw [humidityOut]
    omega
  rw [hout, BitVec.ofInt_natCast]

/-- Settles O56: under `wrap` the compensation has the datapath's values, and each register holds its value. -/
theorem readSensorsCompletes : Obligations.ReadSensorsCompletes := by
  unfold Obligations.ReadSensorsCompletes
  intro s w k p st d hseq hlatch hwrap adcP adcT adcH tf tOut pq guard x hq hOut
  have hcomp := compensate_of_compensated (compensated_wrap hwrap s.cal d)
  have htfine : BitVec.ofInt 64 tf.toInt = tf.signExtend 64 := by
    rw [← BitVec.toInt_signExtend_of_le (w := 32) (v := 64) (by decide), BitVec.ofInt_toInt]
  have hpq : BitVec.ofInt 32 (pq.toNat : Int) = pq := by rw [BitVec.ofInt_natCast, BitVec.ofNat_toNat, BitVec.setWidth_eq]
  have hpascals : BitVec.ofInt 32 ((pq >>> 8).toNat : Int) = pq >>> 8 := by
    rw [BitVec.ofInt_natCast, BitVec.ofNat_toNat, BitVec.setWidth_eq]
  have hresults : resultsOf d tf.toInt ⟨pq.toNat, (pq >>> 8).toNat, guard⟩ x.toInt =
      ⟨adcP, adcT, adcH, tf.signExtend 64, tOut, pq, pq >>> 8, hq, hOut, guard⟩ := by
    rw [resultsOf, htfine, ofInt_humidityOut, humidityQ_eq]
    simp only [hpq, hpascals]
    rfl
  rw [exec_readSensors_of_results hseq hlatch hcomp, hresults]

end Sys2Proof.Machine
end

section
/-! The control and response invariants are kept by every step (10_state.md rules R32 to R41, 30_encoding.md rule R108,
60_exceptions.md rules R260 to R266). -/

namespace Sys2Proof.Machine

open Sys2Proof.Config Sys2Proof.Safety

variable {s t u : State} {i : Instr} {w : CmdWord} {k p : Nat} {sel : Selector} {tx : Transaction}

/-- Settles O16: the invariants run on the power-on state. -/
theorem powerOnMeetsTheInvariants : Obligations.PowerOnMeetsTheInvariants := by
  unfold Obligations.PowerOnMeetsTheInvariants
  decide

/-! ### The response invariant -/

theorem responseOk_error (e : Status) : responseOk (Response.error e) = true := by
  cases e <;> decide

/-- An OK response with at most the PGUARD flag is allowed, whatever its values. -/
theorem responseOk_respond {flags : BitVec 4} (hflags : flags.toNat ≤ 1) (v0 v1 v2 : Value) :
    responseOk ⟨Status.ok.code, flags, v0, v1, v2⟩ = true := by
  simp [responseOk, Status.code, hflags]

theorem flagsOf_le (g : Bool) : (flagsOf g).toNat ≤ 1 := by
  cases g <;> decide

/-- A step that ends a command writes an allowed response. -/
theorem exec_responseOk (h : exec i s = .next t) : t.seq ≠ .idle ∨ responseOk t.rsp = true := by
  cases exec_outcome h with
  | error e _ h => rcases h with rfl | rfl <;> exact .inr (responseOk_error e)
  | transaction u hu tx h => exact .inl (h ▸ transact_ne_idle hu _ tx)
  | beginTransaction kind payload _ u hu tx h =>
    rcases h with rfl | rfl
    · exact .inl (transact_ne_idle hu (selectorOf i s) tx)
    · exact .inl (transact_ne_idle hu _ tx)
  | resetWritten _ u hu h =>
    obtain ⟨m, hum, meas, config, hwrite, _⟩ := resetWrite_eq u
    rw [h, hwrite]
    exact .inl (transact_ne_idle hu u.tsel (.write addrSoftReset u.cfg.resetCode))
  | polled _ u hu h =>
    obtain ⟨q, l, rfl, hq⟩ := hu.eq_update
    exact .inl (h ▸ polled_ne_idle _ hq)
  | shadowed addr v v0 h => exact .inr (h ▸ responseOk_respond (by decide) _ _ _)
  | answered u hu v0 h => exact .inr (h ▸ responseOk_respond (by decide) _ _ _)
  | modeWritten m v _ h => exact .inr (h ▸ responseOk_respond (by decide) _ _ _)
  | begun kind payload _ c h => exact .inr (h ▸ responseOk_respond (by decide) _ _ _)
  | restarted _ c h => exact .inr (h ▸ responseOk_respond (by decide) _ _ _)
  | measured _ u hu st d r _ h => exact .inr (h ▸ responseOk_respond (flagsOf_le _) _ _ _)

/-- A transaction leaves the responses as they were. -/
theorem responsesOk_of_isTransaction (h : IsTransaction s t) (hs : responsesOk s = true) : responsesOk t = true := by
  obtain ⟨_, _, hdelivered, hrsp, hwritten, _⟩ := h
  rw [responsesOk, hdelivered, hrsp, hwritten]
  exact hs

/-- A completion with an allowed response delivers it. -/
theorem responsesOk_of_delivered (hdelivered : t.delivered = t.rsp :: s.delivered) (hwritten : t.rspWritten = true)
    (hrsp : responseOk t.rsp = true) (hs : responsesOk s = true) : responsesOk t = true := by
  have hall : s.delivered.all responseOk = true := (Bool.and_eq_true_iff.1 hs).1
  simp only [responsesOk, hdelivered, hwritten, List.all_cons, hrsp, hall, decide_true, Bool.and_self]

theorem responsesOk_exec (hs : responsesOk s = true) (h : exec i s = .next t) : responsesOk t = true := by
  rcases eachStepIsATransactionOrTheCompletion i s t h with htransaction | ⟨_, hseq, _, hdelivered, hwritten, _⟩
  · exact responsesOk_of_isTransaction htransaction hs
  · exact responsesOk_of_delivered hdelivered hwritten ((exec_responseOk h).resolve_left (not_not.2 hseq)) hs

theorem responsesOk_raise (e : Status) (hs : responsesOk s = true) : responsesOk (s.raise e) = true :=
  responsesOk_of_delivered rfl rfl (responseOk_error e) hs

/-- Settles O18: a command's step keeps it by O11's two cases, and so does the refusal of a word. -/
theorem responseInvariantIsKept : Obligations.ResponseInvariantIsKept := by
  unfold Obligations.ResponseInvariantIsKept
  exact fun s t => step_keeps (P := fun u => responsesOk u = true) responsesOk_exec (responsesOk_raise _) fun _ => id

/-! ### The lifecycle -/

/-- A state that is not Ready and has no valid calibration meets the lifecycle invariant. -/
theorem lifecycleOk_of_dropped (heng : t.engState = .uninitialized) (hcal : t.calValid = false) : lifecycleOk t = true := by
  simp [lifecycleOk, heng, hcal]

theorem lifecycleOk_resetWrite (u : State) : lifecycleOk (resetWrite u) = true := by
  obtain ⟨m, hum, meas, config, hwrite, _⟩ := resetWrite_eq u
  rw [hwrite]
  exact lifecycleOk_of_dropped rfl rfl

/-- Every step of a command keeps the lifecycle invariant; RESET's end needs the selector that its start asked for. -/
theorem lifecycleOk_exec (h : exec i s = .next t) (hs : lifecycleOk s = true)
    (hreset : i = .reset → s.seq ≠ .idle → s.tselValid = true) : lifecycleOk t = true := by
  cases exec_registerWrites h with
  | none h | shadow _ _ _ _ _ _ h | mode _ _ _ _ h | results _ _ _ _ _ _ h =>
    obtain ⟨_, _, _, _, _, _, _, rfl⟩ := h
    exact hs
  | readyDropped _ _ _ _ _ _ h =>
    obtain ⟨_, _, _, _, _, _, _, rfl⟩ := h
    exact lifecycleOk_of_dropped rfl rfl
  | begun _ _ _ _ h =>
    obtain ⟨_, _, _, _, _, _, _, rfl⟩ := h
    simp [lifecycleOk, State.commitCal, State.latchSel]
  | restarted hi _ _ =>
    subst hi
    rcases execReset_cases h with ⟨_, _, rfl⟩ | ⟨_, _, rfl⟩ | ⟨hseq, ⟨_, rfl⟩ | ⟨_, _, _, rfl⟩ | rfl | rfl | ⟨_, _, rfl⟩⟩
    · exact lifecycleOk_resetWrite _
    · exact hs
    · exact lifecycleOk_resetWrite _
    · exact hs
    · exact hs
    · exact hs
    · simp [lifecycleOk, State.respond, hreset rfl hseq]

/-! ### The sequencer -/

/-- The command `i` can make its next step from `s`: SEQ is idle and `i` is well-formed, or `s` is executing `i` at a point
its rule has. -/
def AtPoint (i : Instr) (s : State) : Prop :=
  (s.seq = .idle ∧ i.wellFormed = true) ∨ ∃ w k p, s.seq = .busy w k p ∧ decode w = .ok i ∧ running s i k p = true

theorem sequencerOk_of_idle (hseq : t.seq = .idle) (hlatch : t.latch = []) : sequencerOk t = true := by
  simp [sequencerOk, hseq, hlatch]

theorem sequencerOk_of_busy (hseq : t.seq = .busy w k p) (hdecode : decode w = .ok i) (hrun : running t i k p = true) :
    sequencerOk t = true := by
  simp [sequencerOk, hseq, hdecode, hrun]

/-- The end of a command leaves SEQ idle. -/
theorem sequencerOk_finish (s : State) (r : Response) : sequencerOk (s.finish r) = true := sequencerOk_of_idle rfl rfl

/-- A dispatched command makes its step on a busy state, at its start or at a point its rule has. -/
theorem sequencerOk_dispatched {body : State → Result} (hs : AtPoint i s)
    (hstart : i.wellFormed = true → s.engState = .ready → body (s.start i) = .next t → sequencerOk t = true)
    (hrun : ∀ w k p, s.seq = .busy w k p → decode w = .ok i → running s i k p = true → body s = .next t → sequencerOk t = true)
    (h : dispatched i s body = .next t) : sequencerOk t = true := by
  rcases dispatched_cases h with ⟨hseq, heng, h⟩ | ⟨_, _, rfl⟩ | ⟨hseq, h⟩
  · exact hstart (hs.elim And.right fun ⟨w, k, p, hbusy, _⟩ => by simp [hseq] at hbusy) heng h
  · exact sequencerOk_finish _ _
  · rcases hs with ⟨hidle, _⟩ | ⟨w, k, p, hbusy, hdecode, hpoint⟩
    · exact absurd hidle hseq
    · exact hrun w k p hbusy hdecode hpoint h

/-- A command whose body ends at once. -/
theorem sequencerOk_dispatched_finish {body : State → State} {r : State → Response} (hs : AtPoint i s)
    (h : dispatched i s (fun s => .next (State.finish (body s) (r s))) = .next t) : sequencerOk t = true := by
  refine sequencerOk_dispatched hs (fun _ _ h => ?_) (fun _ _ _ _ _ _ h => ?_) h <;> obtain rfl := Host.Outcome.next.inj h
  · exact sequencerOk_finish _ _
  · exact sequencerOk_finish _ _

/-- The body of a register command runs on a busy Ready engine that has received as many answers as it has made
transactions. -/
theorem sequencerOk_register {body : State → Result}
    (hpoint : ∀ k p, running s i k p = true → s.engState = .ready ∧ p = 0 ∧ s.latch.length = k)
    (hbody : ∀ u w, decode w = .ok i → u.engState = .ready → u.seq = .busy w u.latch.length 0 → body u = .next t →
      sequencerOk t = true)
    (hs : AtPoint i s) (h : dispatched i s body = .next t) : sequencerOk t = true := by
  refine sequencerOk_dispatched hs (fun hwf heng h => ?start) (fun w k p hseq hdecode hrun h => ?run) h
  case start => exact hbody (s.start i) (encode i) (decodeOfEncode i hwf) heng rfl h
  case run =>
    obtain ⟨heng, rfl, rfl⟩ := hpoint k p hrun
    exact hbody s w hdecode heng hseq h

theorem readRunning_iff : readRunning s k p = true ↔ s.engState = .ready ∧ p = 0 ∧ k = 1 ∧ s.latch.length = 1 :=
  decide_eq_true_iff

theorem writeRunning_iff :
    writeRunning s k p = true ↔ s.engState = .ready ∧ p = 0 ∧ 1 ≤ k ∧ k ≤ 2 ∧ s.latch.length = k :=
  decide_eq_true_iff

/-- A getter's step. -/
theorem sequencerOk_readBack {addr : Byte} {value : Byte → Value} (hrun : ∀ u k p, running u i k p = readRunning u k p)
    (hs : AtPoint i s) (h : dispatched i s (fun s => readBack s addr value) = .next t) : sequencerOk t = true := by
  refine sequencerOk_register (fun k p hr => ?point) (fun u w hdecode heng hseq h => ?body) hs h
  case point =>
    obtain ⟨heng, hp, hk, hl⟩ := readRunning_iff.1 (hrun s k p ▸ hr)
    exact ⟨heng, hp, hl.trans hk.symm⟩
  case body =>
    rcases readBack_cases h with ⟨hl, rfl⟩ | ⟨_, rfl⟩ | ⟨_, _, _, rfl⟩
    · rw [hl] at hseq
      refine sequencerOk_of_busy (w := w) (k := 1) (p := 0) (by simp [hseq]) hdecode ?_
      rw [hrun, readRunning_iff]
      exact ⟨heng, rfl, rfl, by simp [hl]⟩
    · exact sequencerOk_finish _ _
    · exact sequencerOk_finish _ _

/-- A step of a read-modify-write, whatever its end commits. -/
theorem sequencerOk_modifyRegister {addr : Byte} {modify : Byte → Byte} {commit : Byte → State → State} {r : Response}
    (hrun : ∀ u k p, running u i k p = writeRunning u k p) (hs : AtPoint i s)
    (h : dispatched i s (fun s => s.proceed s.tsel (modifyRegister addr modify s.latch) fun v s => (commit v s).finish r) =
      .next t) : sequencerOk t = true := by
  refine sequencerOk_register (fun k p hr => ?point) (fun u w hdecode heng hseq h => ?body) hs h
  case point =>
    obtain ⟨heng, hp, _, _, hl⟩ := writeRunning_iff.1 (hrun s k p ▸ hr)
    exact ⟨heng, hp, hl⟩
  case body =>
    have htransact (tx : Transaction) (hl : u.latch.length ≤ 1) : sequencerOk (u.transact u.tsel tx) = true := by
      refine sequencerOk_of_busy (w := w) (k := u.latch.length + 1) (p := 0) (by simp [hseq]) hdecode ?_
      rw [hrun, writeRunning_iff]
      exact ⟨heng, rfl, by omega, by omega, by simp⟩
    rcases modifyRegister_cases addr modify u.latch with ⟨hl, hp⟩ | ⟨d, hl, hp⟩ | ⟨_, hp⟩ | ⟨d, e, r, _, hp⟩ <;>
      rw [hp] at h <;> obtain rfl := Host.Outcome.next.inj h
    · exact htransact _ (by simp [hl])
    · exact htransact _ (by simp [hl])
    · exact sequencerOk_finish _ _
    · exact sequencerOk_finish _ _

/-- The points of READ_SENSORS: the latest status read only, busy or idle, or an idle one and the burst. -/
theorem sensorsRunning_iff : sensorsRunning s k p = true ↔ s.engState = .ready ∧ 1 ≤ p ∧ (∀ n ∈ s.cfg.pollLimit, p ≤ n) ∧
    ((∃ a, s.latch = [a] ∧ k = if answersIdle a then 1 else 0) ∨ ∃ a b, s.latch = [a, b] ∧ answersIdle a = true ∧ k = 2) := by
  unfold sensorsRunning
  rcases s.latch with _ | ⟨a, _ | ⟨b, _ | ⟨c, l⟩⟩⟩ <;> simp [and_assoc]

/-- A status read leaves READ_SENSORS polling, or ready for its burst, where one more read is allowed. -/
theorem sequencerOk_poll (hseq : u.seq = .busy w 0 p) (hdecode : decode w = .ok .readSensors) (heng : u.engState = .ready)
    (hlimit : ∀ n ∈ u.cfg.pollLimit, p + 1 ≤ n) : sequencerOk u.poll = true := by
  refine sequencerOk_of_busy (w := w) (p := p + 1) (by rw [State.poll_seq, hseq, Seq.polled_busy, Nat.zero_add]) hdecode ?_
  exact sensorsRunning_iff.2 ⟨heng, by omega, hlimit, .inl ⟨_, rfl, rfl⟩⟩

theorem sequencerOk_execReadSensors (hcfg : cfgOk s = true) (hs : AtPoint .readSensors s) (h : execReadSensors s = .next t) :
    sequencerOk t = true := by
  refine sequencerOk_dispatched hs (fun _ heng h => ?start) (fun w k p hseq hdecode hrun h => ?run) h
  case start =>
    obtain rfl : State.poll (s.start .readSensors) = t := Host.Outcome.next.inj h
    refine sequencerOk_poll rfl (by decide) heng fun n hn => ?_
    have hlimit : s.cfg.pollLimit = some n := hn
    simpa [cfgOk, Params.wf, hlimit] using hcfg
  case run =>
    obtain ⟨heng, hp, hlimit, hlatch⟩ := sensorsRunning_iff.1 hrun
    rcases sensorsBody_cases h with ⟨hl, _⟩ | ⟨_, rfl⟩ | ⟨_, _, _, _, rfl⟩ | ⟨st, hl, hbusy, hreached, rfl⟩ | ⟨st, hl, hidle, rfl⟩ |
      ⟨_, _, _, rfl⟩ | ⟨_, _, _, _, _, rfl⟩ | ⟨_, _, _, _, _, _, rfl⟩
    · simp [hl] at hlatch
    · exact sequencerOk_finish _ _
    · exact sequencerOk_finish _ _
    · obtain rfl : k = 0 := by simpa [hl, answersIdle, burstByte, hbusy] using hlatch
      refine sequencerOk_poll hseq hdecode heng fun n hn => ?_
      have hn : s.cfg.pollLimit = some n := hn
      simpa [pollLimitReached, hn, hseq] using hreached
    · have hfound : answersIdle (.ok st) = true := by simp [answersIdle, burstByte, hidle]
      obtain rfl : k = 1 := by simpa [hl, hfound] using hlatch
      refine sequencerOk_of_busy (w := w) (k := 2) (p := p) (by simp [hseq]) hdecode ?_
      exact sensorsRunning_iff.2 ⟨heng, hp, hlimit, .inr ⟨.ok st, _, by rw [State.transact_latch, hl]; rfl, hfound, rfl⟩⟩
    · exact sequencerOk_finish _ _
    · exact sequencerOk_finish _ _
    · exact sequencerOk_finish _ _

variable {kind : BitVec 2} {payload : BitVec 24}

theorem running_begin_iff : running s (.begin kind payload) k p = true ↔ s.engState = .uninitialized ∧ p = 0 ∧ 1 ≤ k ∧ k ≤ 21 ∧
    s.latch.length = k ∧ (s.tselValid = true → s.tsel = ⟨kind, payload⟩) := decide_eq_true_iff

theorem running_reset_iff : running s .reset k p = true ↔ s.engState = .uninitialized ∧ s.tselValid = true ∧ p = 0 ∧ 1 ≤ k ∧
    k ≤ 22 ∧ s.latch.length = k := decide_eq_true_iff

/-- The reads of BEGIN are 21. -/
theorem lt_of_beginRead {n : Nat} (h : (Transaction.read addrChipId .one :: calReads)[n]? = some tx) : n < 21 :=
  (List.getElem?_eq_some_iff.1 h).1

theorem sequencerOk_execBegin (hs : AtPoint (.begin kind payload) s) (h : execBegin kind payload s = .next t) :
    sequencerOk t = true := by
  rcases execBegin_cases h with ⟨_, _, _, rfl⟩ | ⟨hseq, hsel, rfl⟩ | ⟨hseq, hbody⟩
  · exact sequencerOk_finish _ _
  · have hwf : (Instr.begin kind payload).wellFormed = true := hs.elim And.right fun ⟨_, _, _, hbusy, _⟩ => by simp [hseq] at hbusy
    refine sequencerOk_of_busy (k := 1) (p := 0) rfl (decodeOfEncode _ hwf) ?_
    exact running_begin_iff.2 ⟨rfl, rfl, by decide, by decide, rfl, fun hvalid => (hsel hvalid).symm⟩
  · rcases hs with ⟨hidle, _⟩ | ⟨w, k, p, hbusy, hdecode, hrun⟩
    · exact absurd hidle hseq
    obtain ⟨heng, rfl, _, _, rfl, hsel⟩ := running_begin_iff.1 hrun
    rcases beginBody_cases hbody with ⟨tx, htx, rfl⟩ | rfl | rfl | ⟨_, _, rfl⟩
    · refine sequencerOk_of_busy (w := w) (k := s.latch.length + 1) (p := 0) (by simp [hbusy]) hdecode ?_
      exact running_begin_iff.2 ⟨heng, rfl, by omega, lt_of_beginRead htx, by simp, hsel⟩
    · exact sequencerOk_finish _ _
    · exact sequencerOk_finish _ _
    · exact sequencerOk_finish _ _

/-- The reset write leaves RESET at its second step. -/
theorem sequencerOk_resetWrite (hwf : decode w = .ok .reset) (hseq : u.seq = .busy w 0 0) (hlatch : u.latch = [])
    (htsel : u.tselValid = true) : sequencerOk (resetWrite u) = true := by
  obtain ⟨m, hum, meas, config, hwrite, _⟩ := resetWrite_eq u
  rw [hwrite]
  refine sequencerOk_of_busy (w := w) (k := 1) (p := 0) ?_ hwf (running_reset_iff.2 ⟨rfl, htsel, rfl, by decide, by decide, ?_⟩)
  · show u.seq.advance = _
    rw [hseq]
    rfl
  · show (u.latch ++ _).length = 1
    rw [hlatch]
    rfl

theorem sequencerOk_execReset (hlifecycle : lifecycleOk s = true) (hs : AtPoint .reset s) (h : execReset s = .next t) :
    sequencerOk t = true := by
  rcases execReset_cases h with ⟨_, heng, rfl⟩ | ⟨_, _, rfl⟩ | ⟨hseq, h⟩
  · have htsel : s.tselValid = true := ((of_decide_eq_true hlifecycle).1 heng).2
    exact sequencerOk_resetWrite (w := encode .reset) (by decide) rfl rfl htsel
  · exact sequencerOk_finish _ _
  · rcases hs with ⟨hidle, _⟩ | ⟨w, k, p, hbusy, hdecode, hrun⟩
    · exact absurd hidle hseq
    obtain ⟨heng, htsel, rfl, hk, _, rfl⟩ := running_reset_iff.1 hrun
    rcases h with ⟨hl, _⟩ | ⟨tx, htx, _, rfl⟩ | rfl | rfl | ⟨_, _, rfl⟩
    · simp [hl] at hk
    · refine sequencerOk_of_busy (w := w) (k := s.latch.length + 1) (p := 0) (by simp [hbusy]) hdecode ?_
      have := lt_of_beginRead htx
      exact running_reset_iff.2 ⟨heng, htsel, rfl, by omega, by omega, by simp⟩
    · exact sequencerOk_finish _ _
    · exact sequencerOk_finish _ _
    · exact sequencerOk_finish _ _

theorem sequencerOk_setOsr {sensor : BitVec 2} {rate : BitVec 3} (hs : AtPoint (.setOsr sensor rate) s)
    (h : exec (.setOsr sensor rate) s = .next t) : sequencerOk t = true := by
  by_cases hinvalid : 3 ≤ sensor.toNat ∨ 6 ≤ rate.toNat
  · rw [exec_setOsr_of_invalid hinvalid] at h
    exact sequencerOk_dispatched_finish hs h
  · obtain ⟨hsensor, hrate⟩ := not_or.1 hinvalid
    obtain ⟨addr, shift, hfield⟩ := exists_osrField hsensor
    rw [exec_setOsr_of_valid hfield (Nat.lt_of_not_le hrate)] at h
    exact sequencerOk_modifyRegister (fun u k p => by simp [running, Nat.lt_of_not_le hsensor, Nat.lt_of_not_le hrate]) hs h

theorem sequencerOk_getOsr {actual : BitVec 1} {sensor : BitVec 2} (hs : AtPoint (.getOsr actual sensor) s)
    (h : exec (.getOsr actual sensor) s = .next t) : sequencerOk t = true := by
  by_cases hinvalid : 3 ≤ sensor.toNat
  · rw [exec_getOsr_of_invalid actual hinvalid] at h
    exact sequencerOk_dispatched_finish hs h
  · obtain ⟨addr, shift, hfield⟩ := exists_osrField hinvalid
    rw [exec_getOsr_of_valid actual hfield] at h
    exact sequencerOk_readBack (fun u k p => by simp [running, Nat.lt_of_not_le hinvalid]) hs h

/-- Whatever the command, its step leaves SEQ at a point its rule has. -/
theorem sequencerOk_exec (hcfg : cfgOk s = true) (hlifecycle : lifecycleOk s = true) (hs : AtPoint i s)
    (h : exec i s = .next t) : sequencerOk t = true := by
  cases i with
  | begin => exact sequencerOk_execBegin hs h
  | getMode => rw [exec_getMode] at h; exact sequencerOk_dispatched_finish hs h
  | measTime => rw [exec_measTime] at h; exact sequencerOk_dispatched_finish hs h
  | setMode | setIir | setStandby => exact sequencerOk_modifyRegister (fun _ _ _ => rfl) hs h
  | setOsr => exact sequencerOk_setOsr hs h
  | getOsr => exact sequencerOk_getOsr hs h
  | getIir | getStandby => exact sequencerOk_readBack (fun _ _ _ => rfl) hs h
  | readSensors => exact sequencerOk_execReadSensors hcfg hs h
  | reset => exact sequencerOk_execReset hlifecycle hs h

/-! ### The control invariant -/

theorem controlOk_iff : controlOk s = true ↔ cfgOk s = true ∧ lifecycleOk s = true ∧ sequencerOk s = true := by
  simp [controlOk, and_assoc]

/-- An executing RESET has a latched selector. -/
theorem tselValid_of_atPoint (hs : AtPoint .reset s) (hseq : s.seq ≠ .idle) : s.tselValid = true := by
  rcases hs with ⟨hidle, _⟩ | ⟨w, k, p, _, _, hrun⟩
  · exact absurd hidle hseq
  · exact (running_reset_iff.1 hrun).2.1

theorem controlOk_exec (hcfg : cfgOk s = true) (hlifecycle : lifecycleOk s = true) (hs : AtPoint i s)
    (h : exec i s = .next t) : controlOk t = true := by
  refine controlOk_iff.2 ⟨?_, lifecycleOk_exec h hlifecycle fun hi hseq => tselValid_of_atPoint (hi ▸ hs) hseq,
    sequencerOk_exec hcfg hlifecycle hs h⟩
  rw [cfgOk, (exec_cfg_hostWords h).1]
  exact hcfg

/-- A busy engine of the control invariant is executing its command at a point its rule has. -/
theorem atPoint_of_busy (hs : sequencerOk s = true) (hseq : s.seq = .busy w k p) (hdecode : decode w = .ok i) : AtPoint i s := by
  refine .inr ⟨w, k, p, hseq, hdecode, ?_⟩
  simpa [sequencerOk, hseq, hdecode] using hs

/-- An idle engine can start every command that a word decodes to. -/
theorem atPoint_of_idle (hseq : s.seq = .idle) (hdecode : decode w = .ok i) : AtPoint i s :=
  .inl ⟨hseq, (encodeOfDecode w i hdecode).1⟩

/-- Settles O17: a command's step keeps it, and so do the refusal of a word and waiting. -/
theorem controlInvariantIsKept : Obligations.ControlInvariantIsKept := by
  unfold Obligations.ControlInvariantIsKept
  intro s t hs h
  obtain ⟨hcfg, hlifecycle, hseqOk⟩ := controlOk_iff.1 hs
  rcases step_cases h with ⟨w, k, p, i, hseq, hdecode, h⟩ | ⟨_, _, _, _, _, _, rfl⟩ | ⟨w, ws, i, hseq, _, hdecode, h⟩ |
    ⟨_, _, _, _, _, _, rfl⟩ | ⟨_, _, rfl⟩
  · exact controlOk_exec hcfg hlifecycle (atPoint_of_busy hseqOk hseq hdecode) h
  · exact controlOk_iff.2 ⟨hcfg, hlifecycle, sequencerOk_finish _ _⟩
  · exact controlOk_exec (s := { s with hostWords := ws }) hcfg hlifecycle (atPoint_of_idle hseq hdecode) h
  · exact controlOk_iff.2 ⟨hcfg, hlifecycle, sequencerOk_finish _ _⟩
  · exact hs

/-! ### The latched transport (rule R33) -/

/-- A step of BEGIN leaves a latched transport as it is: it starts only with the latched selector. -/
theorem tsel_execBegin (hs : AtPoint (.begin kind payload) s) (hvalid : s.tselValid = true) (h : execBegin kind payload s = .next t) :
    t.tselValid = true ∧ t.tsel = s.tsel := by
  rcases execBegin_cases h with ⟨_, _, _, rfl⟩ | ⟨_, _, rfl⟩ | ⟨hseq, hbody⟩
  · exact ⟨hvalid, rfl⟩
  · exact ⟨hvalid, rfl⟩
  · rcases hs with ⟨hidle, _⟩ | ⟨w, k, p, _, _, hrun⟩
    · exact absurd hidle hseq
    obtain ⟨_, _, _, _, _, hsel⟩ := running_begin_iff.1 hrun
    rcases beginBody_cases hbody with ⟨_, _, rfl⟩ | rfl | rfl | ⟨_, _, rfl⟩
    · exact ⟨hvalid, rfl⟩
    · exact ⟨hvalid, rfl⟩
    · exact ⟨hvalid, rfl⟩
    · exact ⟨rfl, (hsel hvalid).symm⟩

theorem tsel_exec (hs : AtPoint i s) (hvalid : s.tselValid = true) (h : exec i s = .next t) :
    t.tselValid = true ∧ t.tsel = s.tsel := by
  by_cases hi : ∃ kind payload, i = .begin kind payload
  · obtain ⟨kind, payload, rfl⟩ := hi
    exact tsel_execBegin hs hvalid h
  · obtain ⟨htsel, htselValid, _⟩ := onlyBeginAndResetWriteTheLifecycle i s t (fun kind payload hb => hi ⟨kind, payload, hb⟩) h
    exact ⟨htselValid.trans hvalid, htsel⟩

/-- Settles O20. -/
theorem latchedTransportIsImmutable : Obligations.LatchedTransportIsImmutable := by
  unfold Obligations.LatchedTransportIsImmutable
  intro s t hs hvalid h
  obtain ⟨_, _, hseqOk⟩ := controlOk_iff.1 hs
  rcases step_cases h with ⟨w, k, p, i, hseq, hdecode, h⟩ | ⟨_, _, _, _, _, _, rfl⟩ | ⟨w, ws, i, hseq, _, hdecode, h⟩ |
    ⟨_, _, _, _, _, _, rfl⟩ | ⟨_, _, rfl⟩
  · exact tsel_exec (atPoint_of_busy hseqOk hseq hdecode) hvalid h
  · exact ⟨hvalid, rfl⟩
  · exact tsel_exec (s := { s with hostWords := ws }) (atPoint_of_idle hseq hdecode) hvalid h
  · exact ⟨hvalid, rfl⟩
  · exact ⟨hvalid, rfl⟩

end Sys2Proof.Machine
end

section
/-! BEGIN and RESET (40_calibration_and_begin.md rules R130 to R140, 44_reset.md rule R250). -/

namespace Sys2Proof.Machine

open Sys2Proof.Config Sys2Proof.Safety

variable {s t u : State} {i : Instr} {w : CmdWord} {k p : Nat} {sel : Selector} {tx : Transaction} {kind : BitVec 2}
  {payload : BitVec 24} {chipId : Byte} {a : Answer} {d : BurstData} {cals : List Answer}

/-! ### The body of BEGIN, one equation a case -/

/-- A failed or mismatching chip-id read stops the body (rule R263). -/
theorem identify_of_mismatch (h : a = .fail ∨ ∃ d, a = .ok d ∧ d.b0 ≠ chipId) (cals : List Answer) :
    identify chipId (a :: cals) = .stop .deviceNotFound := by
  rcases h with rfl | ⟨d, rfl, hd⟩
  · rfl
  · exact if_neg hd

/-- After a matching chip-id the body is LOAD_CAL. -/
theorem identify_of_match (h : d.b0 = chipId) (cals : List Answer) : identify chipId (.ok d :: cals) = loadCal cals := if_pos h

/-- BEGIN's reads are the chip-id's and LOAD_CAL's. -/
theorem beginReads_eq : beginReads = .read addrChipId .one :: calReads := rfl

/-- A failed read stops LOAD_CAL (rule R134). -/
theorem loadCal_of_fail (h : .fail ∈ cals) : loadCal cals = .stop .busFailure := by
  rcases loadCal_cases cals with ⟨_, hload⟩ | ⟨hok, _⟩ | ⟨hok, _⟩
  · exact hload
  · exact absurd h hok
  · exact absurd h hok

/-- Otherwise LOAD_CAL makes the next read of rule R134's list while there is one. -/
theorem loadCal_of_next (hok : .fail ∉ cals) (hnext : beginReads[cals.length + 1]? = some tx) : loadCal cals = .issue tx := by
  rw [beginReads_eq, List.getElem?_cons_succ] at hnext
  rcases loadCal_cases cals with ⟨hfail, _⟩ | ⟨_, tx', htx', hload⟩ | ⟨_, hlength, _⟩
  · exact absurd hfail hok
  · rw [hload, Option.some.inj (htx'.symm.trans hnext)]
  · simp [List.getElem?_eq_none hlength] at hnext

/-- The answers of a LOAD_CAL that was answered `ok` throughout. -/
def okAnswers (c : Nat → BurstData) (n : Nat) : List Answer := (List.range n).map fun j => .ok (c j)

theorem fail_not_mem_okAnswers (c : Nat → BurstData) (n : Nat) : .fail ∉ okAnswers c n := by
  simp [okAnswers]

theorem length_okAnswers (c : Nat → BurstData) (n : Nat) : (okAnswers c n).length = n := by
  simp [okAnswers]

/-- After twenty `ok` answers LOAD_CAL is done. -/
theorem loadCal_of_all (c : Nat → BurstData) : loadCal (okAnswers c 20) = .done (calibrationOf (okAnswers c 20)) := by
  rcases loadCal_cases (okAnswers c 20) with ⟨hfail, _⟩ | ⟨_, tx, htx, _⟩ | ⟨_, _, hload⟩
  · exact absurd hfail (fail_not_mem_okAnswers c 20)
  · rw [length_okAnswers, List.getElem?_eq_none (by decide)] at htx
    cases htx
  · exact hload

/-! ### BEGIN -/

/-- BEGIN past its selector check runs its body with ENG_STATE and CAL_VALID cleared. -/
theorem exec_begin_of_idle (hseq : s.seq = .idle) (hsel : s.tselValid = false ∨ (⟨kind, payload⟩ : Selector) = s.tsel) :
    exec (.begin kind payload) s = beginBody ⟨kind, payload⟩ (s.start (.begin kind payload)).dropReady := by
  have haccepted : ¬ (s.tselValid = true ∧ (⟨kind, payload⟩ : Selector) ≠ s.tsel) := by
    rintro ⟨hvalid, hne⟩
    rcases hsel with hinvalid | heq
    · simp [hinvalid] at hvalid
    · exact hne heq
  simp only [exec, execBegin, hseq, if_neg haccepted]

/-- An executing BEGIN goes on with its body. -/
theorem exec_begin_of_busy (hseq : s.seq = .busy w k p) : exec (.begin kind payload) s = beginBody ⟨kind, payload⟩ s := by
  simp only [exec, execBegin, hseq]

/-- Settles O25: the body starts with the chip-id read. -/
theorem beginStartsWithTheChipId : Obligations.BeginStartsWithTheChipId := by
  unfold Obligations.BeginStartsWithTheChipId
  intro s kind payload hseq hsel
  rw [exec_begin_of_idle hseq hsel]
  rfl

/-- Settles O27. -/
theorem beginLoadsCalibrationInOrder : Obligations.BeginLoadsCalibrationInOrder := by
  unfold Obligations.BeginLoadsCalibrationInOrder
  intro s kind payload w k p d cals hseq hlatch hchip
  have hbody : exec (.begin kind payload) s = s.proceed ⟨kind, payload⟩ (loadCal cals) fun c s =>
      ((s.commitCal c).latchSel ⟨kind, payload⟩).respond noFlags 0 0 0 := by
    rw [exec_begin_of_busy hseq, beginBody, hlatch, identify_of_match hchip]
  refine ⟨fun hfail => ?failed, fun t hok hnext => ?next⟩
  case failed => rw [hbody, loadCal_of_fail hfail, State.proceed, raise_eq_failed]; rfl
  case next => rw [hbody, loadCal_of_next hok hnext, State.proceed, transact_of_busy hseq, hlatch]

/-- Settles O28: LOAD_CAL is done with the calibration of its twenty answers. -/
theorem beginCompletes : Obligations.BeginCompletes := by
  unfold Obligations.BeginCompletes
  intro s kind payload w k p d c hseq hchip hlatch
  rw [exec_begin_of_busy hseq, beginBody, hlatch, identify_of_match hchip, ← okAnswers, loadCal_of_all]
  rfl

/-! ### RESET -/

/-- RESET starts with its write on a Ready engine. -/
theorem exec_reset_of_ready (hseq : s.seq = .idle) (heng : s.engState = .ready) :
    exec .reset s = .next (resetWrite (s.start .reset)) := by
  rw [exec, execReset, dispatched_of_ready hseq heng]
  rfl

/-- After a failed reset write RESET ends (rule R250). -/
theorem exec_reset_of_failedWrite (hseq : s.seq = .busy w k p) (hlatch : s.latch = .fail :: cals) :
    exec .reset s = .next (failed s 3) := by
  rw [exec, execReset, dispatched_of_busy hseq, hlatch]
  rfl

/-- After a successful reset write RESET runs the body of BEGIN on TSEL (rule R250). -/
theorem exec_reset_of_okWrite {e : BurstData} {answers : List Answer} (hseq : s.seq = .busy w k p)
    (hlatch : s.latch = .ok e :: answers) :
    exec .reset s = s.proceed s.tsel (identify s.cfg.chipId answers) fun c s => (s.commitCal c).respond noFlags 0 0 0 := by
  rw [exec, execReset, dispatched_of_busy hseq, hlatch]

/-- Settles O31: the two cases of the reset write. -/
theorem resetWritesTheResetCode : Obligations.ResetWritesTheResetCode := by
  unfold Obligations.ResetWritesTheResetCode
  intro s hseq heng
  rw [exec_reset_of_ready hseq heng]
  refine ⟨fun hask => ?failed, fun d hask => ?succeeded⟩
  case failed =>
    rcases resetWrite_cases (s.start .reset) with ⟨_, hwrite⟩ | ⟨d, hok, _⟩
    · rw [hwrite]; rfl
    · cases hask.symm.trans hok
  case succeeded =>
    rcases resetWrite_cases (s.start .reset) with ⟨hfail, _⟩ | ⟨_, _, hwrite⟩
    · cases hask.symm.trans hfail
    · rw [hwrite]; rfl

/-- Settles O26: both run the body of BEGIN, which the chip-id answer stops. -/
theorem chipIdMismatchIsDeviceNotFound : Obligations.ChipIdMismatchIsDeviceNotFound := by
  unfold Obligations.ChipIdMismatchIsDeviceNotFound
  refine fun s w k p a cals hseq hmismatch => ⟨fun kind payload hlatch => ?begin, fun e hlatch => ?reset⟩
  case begin => rw [exec_begin_of_busy hseq, beginBody, hlatch, identify_of_mismatch hmismatch, State.proceed, raise_eq_failed]; rfl
  case reset => rw [exec_reset_of_okWrite hseq hlatch, identify_of_mismatch hmismatch, State.proceed, raise_eq_failed]; rfl

/-- Settles O32. -/
theorem resetRerunsTheBeginBody : Obligations.ResetRerunsTheBeginBody := by
  unfold Obligations.ResetRerunsTheBeginBody
  refine fun s w k p hseq => ⟨fun rest => exec_reset_of_failedWrite hseq, fun e hlatch => ?chipId,
    fun e d cals hlatch hchip => ⟨fun hfail => ?failed, fun t hok hnext => ?next⟩⟩
  case chipId =>
    rw [exec_reset_of_okWrite hseq hlatch, ← hlatch, ← transact_of_busy hseq]
    rfl
  case failed =>
    rw [exec_reset_of_okWrite hseq hlatch, identify_of_match hchip, loadCal_of_fail hfail, State.proceed, raise_eq_failed]
    rfl
  case next =>
    rw [exec_reset_of_okWrite hseq hlatch, identify_of_match hchip, loadCal_of_next hok hnext, State.proceed,
      transact_of_busy hseq, hlatch]

/-- Settles O33: LOAD_CAL is done with the calibration of its twenty answers. -/
theorem resetCompletes : Obligations.ResetCompletes := by
  unfold Obligations.ResetCompletes
  intro s w k p e d c hseq hchip hlatch
  rw [exec_reset_of_okWrite hseq hlatch, identify_of_match hchip, ← okAnswers, loadCal_of_all]
  rfl

/-! ### A whole BEGIN -/

/-- A run in two parts. -/
theorem core_run_add {M : Host.Core} {m : Nat} {s u : M.State} (h : M.run m s = .next u) (n : Nat) :
    M.run (m + n) s = M.run n u := by
  induction m generalizing s with
  | zero =>
    obtain rfl : s = u := Host.Outcome.next.inj h
    rw [Nat.zero_add]
  | succ m ih =>
    rw [Nat.add_right_comm]
    rcases hfirst : M.step s with s' | r | r
    · rw [core_run_succ hfirst] at h ⊢
      exact ih h
    · simp [Host.Core.run, hfirst] at h
    · simp [Host.Core.run, hfirst] at h

/-- A run makes its last step last. -/
theorem core_run_succ_last {M : Host.Core} {n : Nat} {s u t : M.State} (hrun : M.run n s = .next u) (hstep : M.step u = .next t) :
    M.run (n + 1) s = .next t :=
  (core_run_add hrun 1).trans (core_run_succ hstep 0)

/-- `u` is executing a BEGIN that started from `s` and has had the chip-id and `n` calibration reads answered `ok`, the device
being about to answer `script`. -/
structure BeginReading (s : State) (w : CmdWord) (ws : List CmdWord) (d : BurstData) (c : Nat → BurstData) (n : Nat)
    (script : List Answer) (u : State) : Prop where
  seq : u.seq = .busy w (n + 1) 0
  latch : u.latch = .ok d :: okAnswers c n
  script : u.script = script
  hostWords : u.hostWords = ws
  chipId : d.b0 = u.cfg.chipId
  trace : u.busTrace.map (·.txn) = (beginReads.take (n + 1)).reverse ++ s.busTrace.map (·.txn)

/-- One more calibration read. -/
theorem BeginReading.next {ws : List CmdWord} {c : Nat → BurstData} {n : Nat} {script : List Answer}
    (h : BeginReading s w ws d c n (.ok (c n) :: script) u) (hn : n < 20) (hdecode : decode w = .ok (.begin kind payload)) :
    ∃ v, step u = .next v ∧ BeginReading s w ws d c (n + 1) script v := by
  have hlt : n + 1 < beginReads.length := Nat.succ_lt_succ hn
  have hnext : beginReads[(okAnswers c n).length + 1]? = some beginReads[n + 1] := by
    rw [length_okAnswers, List.getElem?_eq_getElem hlt]
  have hexec := (beginLoadsCalibrationInOrder u kind payload w (n + 1) 0 d _ h.seq h.latch h.chipId).2 _
    (fail_not_mem_okAnswers c n) hnext
  refine ⟨_, (step_eq_exec_of_busy h.seq hdecode).trans hexec, ?_⟩
  constructor
  case seq => rfl
  case latch =>
    simp only [asked, State.ask_of_script u h.script, okAnswers, List.range_succ, List.map_append, List.map_cons, List.map_nil,
      List.cons_append]
  case script => rw [asked, h.script]; rfl
  case hostWords => exact h.hostWords
  case chipId => exact h.chipId
  case trace =>
    rw [List.take_succ_eq_append_getElem hlt, List.reverse_append]
    exact congrArg (_ :: ·) h.trace

/-- The accepted BEGIN and its first `n` calibration reads are `n + 1` steps. -/
theorem exists_beginReading {ws : List CmdWord} {c : Nat → BurstData} {rest : List Answer} (hseq : s.seq = .idle)
    (hwords : s.hostWords = w :: ws) (hdecode : decode w = .ok (.begin kind payload))
    (hsel : s.tselValid = false ∨ (⟨kind, payload⟩ : Selector) = s.tsel) (hchip : d.b0 = s.cfg.chipId)
    (hscript : s.script = .ok d :: (okAnswers c 20 ++ rest)) {n : Nat} (hn : n ≤ 20) :
    ∃ u, Host.Core.run Sys2Proof.core (n + 1) s = .next u ∧
      BeginReading s w ws d c n ((okAnswers c 20).drop n ++ rest) u := by
  induction n with
  | zero =>
    have hstart := beginStartsWithTheChipId { s with hostWords := ws } kind payload hseq hsel
    rw [(encodeOfDecode w _ hdecode).2] at hstart
    refine ⟨_, run_succ_of_step ((step_eq_exec_of_idle hseq hwords hdecode).trans hstart) 0, ?_⟩
    have hask := State.ask_of_script
      ({ s with hostWords := ws, engState := .uninitialized, calValid := false } : State) hscript ⟨kind, payload⟩ (.read 0xD0 .one)
    exact ⟨rfl, by rw [asked, hask]; rfl, by rw [asked, hscript]; rfl, rfl, hchip, rfl⟩
  | succ n ih =>
    obtain ⟨u, hrun, hu⟩ := ih (by omega)
    have hdrop : (okAnswers c 20).drop n = .ok (c n) :: (okAnswers c 20).drop (n + 1) := by
      rw [List.drop_eq_getElem_cons (by rw [length_okAnswers]; omega)]
      simp [okAnswers]
    rw [hdrop] at hu
    obtain ⟨v, hstep, hv⟩ := hu.next (by omega) hdecode
    exact ⟨v, core_run_succ_last (M := Sys2Proof.core) hrun hstep, hv⟩

/-- Settles O30: after the 21 reads the next step completes the command. -/
theorem beginRunsFromAcceptanceToReady : Obligations.BeginRunsFromAcceptanceToReady := by
  unfold Obligations.BeginRunsFromAcceptanceToReady
  intro s w ws kind payload d c rest hseq hwords hdecode hsel hchip hscript
  obtain ⟨u, hrun, hu⟩ := exists_beginReading hseq hwords hdecode hsel hchip hscript (Nat.le_refl 20)
  have hexec := beginCompletes u kind payload w 21 0 d c hu.seq hu.chipId hu.latch
  have hstep := (step_eq_exec_of_busy hu.seq hdecode).trans hexec
  exact ⟨_, core_run_succ_last (M := Sys2Proof.core) hrun hstep, rfl, rfl, rfl, rfl, rfl, rfl, hu.hostWords, hu.script, hu.trace⟩

end Sys2Proof.Machine
end

section
/-! Round trips through the device: a setting written and read back (41_configuration.md rules R161 and R162). -/

namespace Sys2Proof.Machine

open Sys2Proof.Config Sys2Proof.Safety

variable {s u : State} {i : Instr} {word : CmdWord} {addr : Byte} {modify : Byte → Byte} {commit : State → Byte → State}
  {value : Byte → Value} {ws : List CmdWord} {d e f : BurstData} {rest : List Answer}

/-- A transaction whose answer is fixed. -/
theorem asked_of_script {a : Answer} (hscript : s.script = a :: rest) (sel : Selector) (tx : Transaction) (before : List Answer)
    (seq : Seq) :
    asked s sel tx before seq =
      { s with busTrace := ⟨sel, tx, a⟩ :: s.busTrace, script := rest, latch := before ++ [a], seq := seq } := by
  rw [asked, State.ask_of_script s hscript, hscript]
  rfl

/-- `s` after the command `i` was taken and has read `d` from the register at `addr`; the host's next words are `ws` and the
device's next answers `rest`. -/
def wasRead (s : State) (i : Instr) (addr : Byte) (ws : List CmdWord) (d : BurstData) (rest : List Answer) : State :=
  { s with
    hostWords := ws
    busTrace := ⟨s.tsel, .read addr .one, .ok d⟩ :: s.busTrace
    script := rest
    latch := [.ok d]
    seq := .busy (encode i) 1 0 }

/-- `s` after `i` has also written `v` back, answered `e`. -/
def wroteBack (s : State) (i : Instr) (addr v : Byte) (ws : List CmdWord) (d e : BurstData) (rest : List Answer) : State :=
  { s with
    hostWords := ws
    busTrace := ⟨s.tsel, .write addr v, .ok e⟩ :: ⟨s.tsel, .read addr .one, .ok d⟩ :: s.busTrace
    script := rest
    latch := [.ok d, .ok e]
    seq := .busy (encode i) 2 0 }

/-- The first step of a command that reads its register on a Ready engine. -/
theorem step_eq_wasRead
    (hread : ∀ s : State, s.seq = .idle → s.engState = .ready →
      exec i s = .next (asked s s.tsel (.read addr .one) [] (.busy (encode i) 1 0)))
    (hwf : i.wellFormed = true) (hseq : s.seq = .idle) (heng : s.engState = .ready) (hwords : s.hostWords = encode i :: ws)
    (hscript : s.script = .ok d :: rest) : step s = .next (wasRead s i addr ws d rest) := by
  rw [step_eq_exec_of_idle hseq hwords (decodeOfEncode i hwf), hread { s with hostWords := ws } hseq heng,
    asked_of_script (s := { s with hostWords := ws }) hscript]
  rfl

/-- The two transactions of a read-modify-write are its first two steps. -/
theorem run_two_of_readModifyWrite (hi : IsReadModifyWrite i word addr modify commit) (hwf : i.wellFormed = true)
    (hseq : s.seq = .idle) (heng : s.engState = .ready) (hwords : s.hostWords = encode i :: ws)
    (hscript : s.script = .ok d :: .ok e :: rest) :
    Host.Core.run Sys2Proof.core 2 s = .next (wroteBack s i addr (modify d.b0) ws d e rest) := by
  obtain ⟨_, _, hread, _, hwrite, _, _⟩ := hi
  rw [run_succ_of_step (step_eq_wasRead hread hwf hseq heng hwords hscript)]
  have hsecond := hwrite (wasRead s i addr ws d (.ok e :: rest)) (encode i) 1 0 d rfl rfl
  rw [asked_of_script (s := wasRead s i addr ws d (.ok e :: rest)) rfl] at hsecond
  exact run_succ_of_step ((step_eq_exec_of_busy rfl (decodeOfEncode i hwf)).trans hsecond) 0

/-- Its third step completes it. -/
theorem run_three_of_readModifyWrite (hi : IsReadModifyWrite i word addr modify commit) (hwf : i.wellFormed = true)
    (hseq : s.seq = .idle) (heng : s.engState = .ready) (hwords : s.hostWords = encode i :: ws)
    (hscript : s.script = .ok d :: .ok e :: rest) :
    Host.Core.run Sys2Proof.core 3 s =
      .next (ended (commit (wroteBack s i addr (modify d.b0) ws d e rest) (modify d.b0)) 0 0 0 0 0) := by
  have htwo := run_two_of_readModifyWrite hi hwf hseq heng hwords hscript
  obtain ⟨_, _, _, _, _, _, hcompleted⟩ := hi
  have hthird := hcompleted (wroteBack s i addr (modify d.b0) ws d e rest) (encode i) 2 0 d e rfl rfl
  exact core_run_succ_last (M := Sys2Proof.core) htwo ((step_eq_exec_of_busy rfl (decodeOfEncode i hwf)).trans hthird)

/-- A register read of an idle Ready engine is two steps. -/
theorem run_two_of_registerRead (hi : IsRegisterRead i word addr commit value) (hwf : i.wellFormed = true)
    (hseq : s.seq = .idle) (heng : s.engState = .ready) (hwords : s.hostWords = encode i :: ws)
    (hscript : s.script = .ok d :: rest) :
    ∃ t, Host.Core.run Sys2Proof.core 2 s = .next t ∧ t.rsp = ⟨0, 0, value d.b0, 0, 0⟩ := by
  obtain ⟨_, _, hread, _, hcompleted⟩ := hi
  rw [run_succ_of_step (step_eq_wasRead hread hwf hseq heng hwords hscript)]
  have hsecond := hcompleted (wasRead s i addr ws d rest) (encode i) 1 0 d rfl rfl
  exact ⟨_, run_succ_of_step ((step_eq_exec_of_busy rfl (decodeOfEncode i hwf)).trans hsecond) 0, rfl⟩

/-! ### The bytes -/

/-- Replacing the mode bits leaves the others. -/
theorem withMode_and (mode : BitVec 2) (r : Byte) : withMode mode r &&& 0xFC#8 = r &&& 0xFC#8 := by
  have hmode : mode.setWidth 8 &&& 0xFC#8 = 0#8 := by revert mode; decide
  rw [withMode, BitVec.and_or_distrib_right, hmode, BitVec.and_assoc, BitVec.and_self, BitVec.or_zero]

theorem extractLsb'_withMode (mode : BitVec 2) (r : Byte) : (withMode mode r).extractLsb' 0 2 = mode := by
  have hmask : (0xFC#8).extractLsb' 0 2 = 0#2 := by decide
  have hmode : (mode.setWidth 8).extractLsb' 0 2 = mode := by revert mode; decide
  rw [withMode, BitVec.extractLsb'_or, BitVec.extractLsb'_and, hmask, hmode, BitVec.and_zero, BitVec.zero_or]

/-- A field that was replaced reads back. -/
theorem fieldOf_withField {shift : Nat} (hshift : shift ≤ 5) (v : BitVec 3) (r : Byte) : fieldOf shift (withField shift v r) = v := by
  have hmask : (~~~(0x7#8 <<< shift)).extractLsb' shift 3 = 0#3 := by interval_cases shift <;> decide
  have hvalue : (v.setWidth 8 <<< shift).extractLsb' shift 3 = v := by revert v; interval_cases shift <;> decide
  rw [fieldOf, withField, BitVec.extractLsb'_or, BitVec.extractLsb'_and, hmask, hvalue, BitVec.and_zero, BitVec.zero_or]

/-- Every oversampling field lies within its register. -/
theorem shift_le_of_osrField {sensor : BitVec 2} {shift : Nat} (h : osrField sensor = some (addr, shift)) : shift ≤ 5 := by
  have hall : ∀ sensor, ∀ field ∈ osrField sensor, field.2 ≤ 5 := by decide
  exact hall sensor _ h

/-! ### The round trips -/

/-- GET_MODE is one step. -/
theorem step_getMode (hseq : s.seq = .idle) (heng : s.engState = .ready) (hwords : s.hostWords = encode .getMode :: ws) :
    step s = .next (ended { s with hostWords := ws } 0 0 (s.modeCache.setWidth 32) 0 0) := by
  rw [step_eq_exec_of_idle hseq hwords (i := .getMode) (by decide)]
  exact (getModeReturnsTheCache.2 { s with hostWords := ws } hseq).1 heng

/-- Settles O42: SET_MODE's three steps, then GET_MODE of the MODE_CACHE they left. -/
theorem setModeGetModeRoundTrip : Obligations.SetModeGetModeRoundTrip := by
  unfold Obligations.SetModeGetModeRoundTrip
  intro s mode ws d e rest hseq heng hwords hscript
  have hthree := run_three_of_readModifyWrite (setModeWritesTheModeBits mode) rfl hseq heng hwords hscript
  have hget := step_getMode (ws := ws)
    (s := ended { wroteBack s (.setMode mode) 0xF4 (withMode mode d.b0) (encode .getMode :: ws) d e rest with
      modeCache := mode, shCtrlMeas := withMode mode d.b0 } 0 0 0 0 0) rfl heng rfl
  exact ⟨_, withMode mode d.b0, core_run_succ_last (M := Sys2Proof.core) hthree hget, rfl, rfl, withMode_and mode d.b0,
    extractLsb'_withMode mode d.b0⟩

/-- Settles O43: SET_OSR's three steps, then GET_OSR's two, which read the field that the device took. -/
theorem setOsrGetOsrRoundTrip : Obligations.SetOsrGetOsrRoundTrip := by
  unfold Obligations.SetOsrGetOsrRoundTrip
  intro s sensor rate ws d e f rest hsensor hrate hseq heng hwords hscript hreadsBack
  obtain ⟨addr, shift, hfield⟩ := exists_osrField (Nat.not_le.2 hsensor)
  have hset : IsReadModifyWrite (.setOsr sensor rate) _ addr (withField shift rate) fun s v => s.setShadow addr v :=
    isReadModifyWrite_of_writeField rfl (fun _ _ => rfl) (exec_setOsr_of_valid hfield hrate)
  have hget : IsRegisterRead (.getOsr 0 sensor) _ addr (fun s r => s.setShadow addr r) fun r => osrValue 0 (fieldOf shift r) :=
    isRegisterRead_of_exec rfl (fun _ _ => rfl) (exec_getOsr_of_valid 0 hfield)
  have hbyte : f.b0 = withField shift rate d.b0 :=
    hreadsBack addr _ _ (run_two_of_readModifyWrite hset rfl hseq heng hwords hscript) rfl
  have hthree := run_three_of_readModifyWrite hset rfl hseq heng hwords hscript
  obtain ⟨t, hrun, hrsp⟩ := run_two_of_registerRead (ws := ws) (d := f) (rest := rest) hget rfl
    (s := ended (State.setShadow (wroteBack s (.setOsr sensor rate) addr (withField shift rate d.b0)
      (encode (.getOsr 0 sensor) :: ws) d e (.ok f :: rest)) addr (withField shift rate d.b0)) 0 0 0 0 0)
    rfl ((State.setShadow_engState _ _ _).trans heng) (State.setShadow_hostWords _ _ _) (State.setShadow_script _ _ _)
  refine ⟨t, (core_run_add (M := Sys2Proof.core) hthree 2).trans hrun, ?_⟩
  rw [hrsp, hbyte, fieldOf_withField (shift_le_of_osrField hfield)]
  rfl

end Sys2Proof.Machine
end
